-- ==== Sys2Proof/Word.lean ====
section
/-! DEFINITION. The plain values of the engine: bytes, counters, 16-bit words, and the answer of a bus read
(spec/00_scope.md R11, R12). -/

namespace Sys2Proof

/-- One byte: a register address, a data byte, a command code. -/
abbrev Byte := BitVec 8

/-- The device's 4-bit sequence counter, wrapping mod 16 (00_scope.md R8, R11). -/
abbrev Counter := BitVec 4

/-- A 16-bit host-readable register: RES (two's complement), IR, VIS, ENG_STATUS. -/
abbrev Word16 := BitVec 16

/-- What a read transaction returns (00_scope.md R12, 20_memory.md R85): the first byte received, or NODATA (-1). -/
inductive Answer where
  | nodata
  | byte (v : Byte)
deriving DecidableEq, Repr, Inhabited

end Sys2Proof
end

