-- ==== Sys2Proof/Config.lean ====
section
/-! DEFINITION. The implementation parameters of spec/00_scope.md R8, and the free values (`draw()` of R12 and the
environment's answers of 20_memory.md R85) as constants with no body. -/

namespace Sys2Proof

/-- ERR_BIT: the bit position of the error flag, 4..7 (00_scope.md R8, 30_encoding.md R106). -/
inductive ErrBit where
  | bit4 | bit5 | bit6 | bit7
deriving DecidableEq, Repr

/-- NODATA_STATUS_MODE: what a status read that returns no data means (00_scope.md R8). -/
inductive NodataStatusMode where
  | allOnes
  | fault
deriving DecidableEq, Repr

/-- PARAM_BASELINE: the counter a parameter poll compares against (00_scope.md R8, 42_param_access.md R224). -/
inductive ParamBaseline where
  | previousPoll
  | fixedInitial
deriving DecidableEq, Repr

/-- The parameters of one engine (00_scope.md R8). Static: no step writes them. Addresses need not be distinct (R9). -/
structure Config where
  devAddr : BitVec 7
  regCommand : Byte
  regStatus : Byte
  regRespval : Byte
  regHostin : Byte
  regOut0 : Byte
  regOut1 : Byte
  regOut2 : Byte
  regOut3 : Byte
  maxRetries : Nat
  errBit : ErrBit
  nodataStatusMode : NodataStatusMode
  paramBaseline : ParamBaseline
  hasParamAccess : Bool
  wdataMax : Nat
deriving DecidableEq, Repr

/-- RETRY_W, the width of RETRY: max(1, ceil(log2(MAX_RETRIES + 1))) (00_scope.md R8, derived parameter). -/
def Config.retryW (c : Config) : Nat := max 1 (Nat.clog 2 (c.maxRetries + 1))

/-- The range R8 gives WDATA_MAX: 2..255. The other ranges are in the types. -/
def Config.inRange (c : Config) : Bool := decide (2 ≤ c.wdataMax) && decide (c.wdataMax ≤ 255)

/-- The addresses R8 leaves OPEN ("configuration"): the spec adopts no value, so none is known here (log 2). -/
opaque Config.givenDevAddr : BitVec 7
/-- REG_COMMAND, OPEN. -/
opaque Config.givenRegCommand : Byte
/-- REG_STATUS, OPEN. -/
opaque Config.givenRegStatus : Byte
/-- REG_RESPVAL, OPEN. -/
opaque Config.givenRegRespval : Byte
/-- REG_HOSTIN, OPEN. -/
opaque Config.givenRegHostin : Byte
/-- REG_OUT0, OPEN. -/
opaque Config.givenRegOut0 : Byte
/-- REG_OUT1, OPEN. -/
opaque Config.givenRegOut1 : Byte
/-- REG_OUT2, OPEN. -/
opaque Config.givenRegOut2 : Byte
/-- REG_OUT3, OPEN. -/
opaque Config.givenRegOut3 : Byte

/-- The values R8 adopts, with the addresses it leaves open (log 2). `State.reset` holds this configuration;
every statement is about every configuration. -/
def Config.adopted : Config where
  devAddr := Config.givenDevAddr
  regCommand := Config.givenRegCommand
  regStatus := Config.givenRegStatus
  regRespval := Config.givenRegRespval
  regHostin := Config.givenRegHostin
  regOut0 := Config.givenRegOut0
  regOut1 := Config.givenRegOut1
  regOut2 := Config.givenRegOut2
  regOut3 := Config.givenRegOut3
  maxRetries := 10000
  errBit := .bit7
  nodataStatusMode := .allOnes
  paramBaseline := .previousPoll
  hasParamAccess := true
  wdataMax := 32

/-- `draw()` for a 16-bit register: the k-th free value (00_scope.md R12; log 4, 5). -/
opaque Config.freeWord : Nat → Word16
/-- `draw()` for a byte of WBUF (10_state.md R45; log 4). -/
opaque Config.freeByte : Nat → Byte
/-- A free answer of the environment, and `draw()` for an element of OBUF (20_memory.md R85, 10_state.md R45; log 4, 6). -/
opaque Config.freeAnswer : Nat → Answer

end Sys2Proof
end

