-- ==== Sys2Proof/Syntax.lean ====
section
/-! DEFINITION. The six host operations (spec/30_encoding.md R101, R102; one constructor per row of
spec/opcode_table.json), and a host request: its 32-bit word and its payload (R100). -/

namespace Sys2Proof

/-- The host operations, the engine's instructions (00_scope.md R2). -/
inductive Instr where
  /-- SENDCMD: send a command code and poll for its completion (R172). -/
  | sendcmd (force : Bool) (code : Byte)
  /-- RDREG: read one register, requesting `count` bytes (R144). -/
  | rdreg (reg count : Byte)
  /-- WRDATA: write the payload as one transaction (R143). -/
  | wrdata (payload : List Byte)
  /-- RDOUT: read and assemble the two output channels (R260). -/
  | rdout
  /-- PSET: set a device parameter (R226). -/
  | pset (loc : BitVec 6) (value : Byte)
  /-- PQUERY: query a device parameter (R227). -/
  | pquery (loc : BitVec 6)
deriving DecidableEq, Repr

/-- A host request: the request word REQ[31:0] and the payload bytes (R100). -/
structure Request where
  word : BitVec 32
  payload : List Byte
deriving DecidableEq, Repr

/-- The pseudo-instruction `FORCECMD code` (30_encoding.md R117). -/
def Instr.forcecmd (code : Byte) : Instr := .sendcmd true code

/-- The pseudo-instruction `RD reg` (R117). -/
def Instr.rd (reg : Byte) : Instr := .rdreg reg 1

/-- The pseudo-instruction `WRREG reg, v` (R117). -/
def Instr.wrreg (reg v : Byte) : Instr := .wrdata [reg, v]

/-- The pseudo-instruction `CMDRAW code` (R117); REG_COMMAND is a parameter. -/
def Instr.cmdraw (regCommand code : Byte) : Instr := .wrdata [regCommand, code]

end Sys2Proof
end

