-- ==== Sys2Proof/Machine/State.lean ====
section
/-! DEFINITION. The state of the machine as plain data (spec/10_state.md R30 to R45): the engine registers, the
configuration, the event record, and what the host and the environment will do next. -/

namespace Sys2Proof.Machine

/-- SEQ, the sequencer state (10_state.md R32). -/
inductive Seq where
  | idle
  | scInit | scCmd | scPoll
  | wdXfer
  | rrXfer
  | pBase | pHostin | pCmd | pPoll | pRead
  | roRead
deriving DecidableEq, Repr

/-- One bus transaction, addressed to DEV_ADDR (20_memory.md R86): `W(bytes)` or `R(reg, count, answer)`. -/
inductive Event where
  | write (bytes : List Byte)
  | read (reg count : Byte) (answer : Answer)
deriving DecidableEq, Repr

/-- One call of the bus driver (40_transport.md R140). -/
inductive BusCall where
  | beginTransmission (dev : BitVec 7)
  | write (bytes : List Byte)
  | endTransmission
  | requestFrom (dev : BitVec 7) (count : Byte)
  | available
  | readByte (v : Byte)
deriving DecidableEq, Repr

/-- What the host does with one of its turns, which fall between engine steps (60_exceptions.md R288, log 7). -/
inductive HostTurn where
  /-- The Start action. -/
  | start (req : Request)
  /-- Assert reset (70_reset_and_hazards.md R320). -/
  | reset
  /-- Nothing: the engine moves. -/
  | pass
deriving DecidableEq, Repr

/-- The engine faults (60_exceptions.md R282). They are sticky bits of FAULT, not outcomes of a step. -/
inductive EngineFault where
  | illegalRequest
  | startWhileBusy
  | statusNodata
deriving DecidableEq, Repr

/-- The registers the host can read (60_exceptions.md R288). -/
inductive HostReg where
  | engStatus
  | res
  | ir
  | vis
deriving DecidableEq, Repr

/-- The state. The first group is the engine registers of R31 (`retry`, RETRY_W bits wide, is held as a number: log 11);
`cfg` is the configuration, which nothing writes (R30, log 1); `trace` is the event record, oldest first (20_memory.md R86,
log 13); `host`, `answers` and `draws` are the model's own: the host's next turns, the environment's next answers, the number
of free values drawn. -/
structure State where
  seq : Seq
  busy : Bool
  done : Bool
  fault : BitVec 3
  op : BitVec 3
  force : Bool
  a : Byte
  b : Byte
  wbuf : List Byte
  initCtr : Counter
  priorCtr : Counter
  retry : Nat
  oidx : Fin 4
  obuf : Vector Answer 4
  res : Word16
  ir : Word16
  vis : Word16
  cfg : Config
  trace : List Event
  host : List HostTurn
  answers : List Answer
  draws : Nat
deriving DecidableEq, Repr

/-- The reasons the machine stops with a fault: there is none. The spec's engine faults are sticky bits and its
protocol errors are values of RES (60_exceptions.md R280, R283), so every step answers a next state (log 15). -/
inductive Fault
deriving DecidableEq, Repr

/-- The reasons a step is refused. -/
inductive Refusal where
  /-- An instruction with no meaning yet. Raised by no arm of this model; safe. -/
  | notModelled (mnemonic : String)
deriving DecidableEq, Repr

/-- The outcome of a meaning or a step. -/
abbrev Out := Host.Outcome State Fault Refusal

/-- The machine right after reset (10_state.md R45, 70_reset_and_hazards.md R320). WBUF, OBUF, RES, IR and VIS, which
R45 leaves unspecified, hold zero here (DESIGN CHOICE, unsafe, log 3). Nothing has happened on the bus, the host has
no turn planned, and no answer is fixed. -/
def State.reset : State where
  seq := .idle
  busy := false
  done := false
  fault := 0
  op := 0
  force := false
  a := 0
  b := 0
  wbuf := List.replicate 32 0
  initCtr := 0
  priorCtr := 0
  retry := 0
  oidx := 0
  obuf := Vector.replicate 4 (.byte 0)
  res := 0
  ir := 0
  vis := 0
  cfg := Config.adopted
  trace := []
  host := []
  answers := []
  draws := 0

end Sys2Proof.Machine
end

