-- ==== Sys2Proof/Machine/Flags.lean ====
section
/-! DEFINITION. The combinational functions: the status byte decoder (spec/30_encoding.md R107), the completion
detector (41_command_engine.md R170), the result mapper (R171, 30_encoding.md R109) and the ENG_STATUS view
(10_state.md R33). -/

namespace Sys2Proof.Machine

/-- The bit position ERR_BIT names (00_scope.md R8). -/
def errBitPos : ErrBit → Nat
  | .bit4 => 4
  | .bit5 => 5
  | .bit6 => 6
  | .bit7 => 7

/-- The two fields of a status byte (30_encoding.md R106): the counter, bits 3:0, and the error flag, bit ERR_BIT. -/
def statusFields (cfg : Config) (s : Byte) : Counter × Bool :=
  (s.extractLsb' 0 4, s.getLsbD (errBitPos cfg.errBit))

/-- The status byte decoder (R107); `none` where it raises STATUS_NODATA. -/
def decodeStatus (cfg : Config) (r : Answer) : Option (Counter × Bool) :=
  match r with
  | .byte s => some (statusFields cfg s)
  | .nodata =>
    match cfg.nodataStatusMode with
    | .allOnes => some (statusFields cfg 0xFF#8)
    | .fault => none

/-- The completion detector `advanced(i, c)` (41_command_engine.md R170). -/
def advanced (i c : Counter) : Bool :=
  decide (c.toNat > i.toNat) || (decide (i = 15) && decide (c = 0))

/-- The outcomes of SENDCMD (30_encoding.md R109). -/
inductive CommandResult where
  | success
  | deviceError (c : Counter)
  | preheld (c : Counter)
  | timeout
deriving DecidableEq, Repr

/-- The result mapper (41_command_engine.md R171): 0, c + 1, -(c + 1) or 17, in 16-bit two's complement. -/
def resultWord : CommandResult → Word16
  | .success => 0x0000#16
  | .deviceError c => c.zeroExtend 16 + 1#16
  | .preheld c => -(c.zeroExtend 16 + 1#16)
  | .timeout => 0x0011#16

/-- How a host reads RES after SENDCMD (30_encoding.md R109, R110): the outcome the value stands for, if any. -/
def commandResultOf (res : Word16) : Option CommandResult :=
  if res = 0x0000#16 then some .success
  else if res = 0x0011#16 then some .timeout
  else if res.toNat ≤ 16 then some (.deviceError (BitVec.ofNat 4 (res.toNat - 1)))
  else if 0xFFF0 ≤ res.toNat then some (.preheld (BitVec.ofNat 4 (0xFFFF - res.toNat)))
  else none

/-- RETRY after one more poll (41_command_engine.md R175): RETRY + 1 in a register RETRY_W bits wide (60_exceptions.md
R290). It does not wrap while RETRY is below MAX_RETRIES (10_state.md R39; log 11). -/
def countPoll (cfg : Config) (retry : Nat) : Nat := (retry + 1) % 2 ^ cfg.retryW

/-- The value of RES for one read answer (40_transport.md R144, 42_param_access.md R225): the byte, or -1. -/
def answerWord : Answer → Word16
  | .nodata => 0xFFFF#16
  | .byte v => v.zeroExtend 16

/-- A 16-bit channel from its two answers, high byte first (43_output_reading.md R262); `none` where one is NODATA. -/
def channelWord : Answer → Answer → Option Word16
  | .byte hi, .byte lo => some (hi ++ lo)
  | .byte _, .nodata => none
  | .nodata, _ => none

/-- The bit of FAULT that a fault sets (10_state.md R34). -/
def faultMask : EngineFault → BitVec 3
  | .illegalRequest => 0b001#3
  | .startWhileBusy => 0b010#3
  | .statusNodata => 0b100#3

/-- ENG_STATUS (10_state.md R33): BUSY in bit 0, DONE in bit 1, FAULT in 4:2, bits 15:5 zero. -/
def State.engStatus (s : State) : Word16 :=
  0#11 ++ s.fault ++ BitVec.ofBool s.done ++ BitVec.ofBool s.busy

/-- The host's reads (60_exceptions.md R288). A read answers a value and no state: it has no side effect. -/
def State.hostRead (s : State) : HostReg → Word16
  | .engStatus => s.engStatus
  | .res => s.res
  | .ir => s.ir
  | .vis => s.vis

end Sys2Proof.Machine
end

