-- ==== Sys2Proof/WellFormed.lean ====
section
/-! DEFINITION. Well-formed instructions: those some request word and payload encode (spec/30_encoding.md R102, R103).
The checks that depend on the configuration (C6's WDATA_MAX, C8) are `Instr.permitted` in Machine/Operands.lean. -/

namespace Sys2Proof

/-- R103 C5: RDREG's count is at least 1. R102 with R100: WRDATA's length fits the 8-bit field B.
Every other field is as wide as its type. -/
def Instr.wellFormed : Instr → Bool
  | .sendcmd _ _ => true
  | .rdreg _ count => decide (count ≠ 0)
  | .wrdata payload => decide (payload.length ≤ 255)
  | .rdout => true
  | .pset _ _ => true
  | .pquery _ => true

end Sys2Proof
end

