-- ==== Sys2Proof/Decode.lean ====
section
/-! DEFINITION. The request word (spec/30_encoding.md R100 to R105): its fields, the decoder, which rejects by name,
and the encoder, from the same layout. -/

namespace Sys2Proof

/-- OP, bits 2:0 (R100). -/
def opField (w : BitVec 32) : BitVec 3 := w.extractLsb' 0 3
/-- F, bit 3. -/
def forceField (w : BitVec 32) : Bool := w.getLsbD 3
/-- RSV0, bits 7:4. -/
def rsv0Field (w : BitVec 32) : BitVec 4 := w.extractLsb' 4 4
/-- A, bits 15:8. -/
def aField (w : BitVec 32) : Byte := w.extractLsb' 8 8
/-- B, bits 23:16. -/
def bField (w : BitVec 32) : Byte := w.extractLsb' 16 8
/-- RSV1, bits 31:24. -/
def rsv1Field (w : BitVec 32) : Byte := w.extractLsb' 24 8

/-- Why a request is not one of the six operations: the failing check of R103. Every one of them is the single
fault ILLEGAL_REQUEST; the name only says which check failed first here, the checks having no order. -/
inductive Reject where
  /-- C1: OP is 0b000 or 0b111. -/
  | reservedOpcode
  /-- C2: RSV0 or RSV1 is nonzero. -/
  | reservedBits
  /-- C3: F = 1 for an operation other than SENDCMD. -/
  | forceBit
  /-- C4: an operand that must be 0 is not. -/
  | operandNotZero
  /-- C5: RDREG with count 0. -/
  | zeroCount
  /-- C6: WRDATA's payload has not exactly B bytes. -/
  | payloadLength
  /-- C7: a parameter location with A[7:6] ≠ 00. -/
  | locationRange
deriving DecidableEq, Repr

/-- The operation codes of R101. -/
def opSendcmd : BitVec 3 := 0b001#3
/-- RDREG. -/
def opRdreg : BitVec 3 := 0b010#3
/-- WRDATA. -/
def opWrdata : BitVec 3 := 0b011#3
/-- RDOUT. -/
def opRdout : BitVec 3 := 0b100#3
/-- PSET. -/
def opPset : BitVec 3 := 0b101#3
/-- PQUERY. -/
def opPquery : BitVec 3 := 0b110#3

/-- The operands of an operation from its fields F, A, B and the payload: R102, checks C3 to C7 of R103.
A payload given with an operation other than WRDATA is not looked at: no check names it (DEDUCED, log 12). -/
def decodeOperands (op : BitVec 3) (f : Bool) (a b : Byte) (payload : List Byte) : Except Reject Instr :=
  if op = opSendcmd then
    if b ≠ 0 then .error .operandNotZero else .ok (.sendcmd f a)
  else if op = opRdreg then
    if f then .error .forceBit else if b = 0 then .error .zeroCount else .ok (.rdreg a b)
  else if op = opWrdata then
    if f then .error .forceBit
    else if a ≠ 0 then .error .operandNotZero
    else if payload.length ≠ b.toNat then .error .payloadLength
    else .ok (.wrdata payload)
  else if op = opRdout then
    if f then .error .forceBit else if a ≠ 0 ∨ b ≠ 0 then .error .operandNotZero else .ok .rdout
  else if op = opPset then
    if f then .error .forceBit
    else if a.extractLsb' 6 2 ≠ 0 then .error .locationRange
    else .ok (.pset (a.extractLsb' 0 6) b)
  else if op = opPquery then
    if f then .error .forceBit
    else if a.extractLsb' 6 2 ≠ 0 then .error .locationRange
    else if b ≠ 0 then .error .operandNotZero
    else .ok (.pquery (a.extractLsb' 0 6))
  else .error .reservedOpcode

/-- The decoder: total on every 32-bit word and payload (R104), the operation or the check that fails.
C6's bound WDATA_MAX and C8 depend on the configuration and are checked at Start (`Instr.permitted`; log 17). -/
def decode (req : Request) : Except Reject Instr :=
  if rsv0Field req.word ≠ 0 ∨ rsv1Field req.word ≠ 0 then .error .reservedBits
  else decodeOperands (opField req.word) (forceField req.word) (aField req.word) (bField req.word) req.payload

/-- The operation code of an instruction (R101). -/
def Instr.opcode : Instr → BitVec 3
  | .sendcmd _ _ => opSendcmd
  | .rdreg _ _ => opRdreg
  | .wrdata _ => opWrdata
  | .rdout => opRdout
  | .pset _ _ => opPset
  | .pquery _ => opPquery

/-- Field F of an instruction (R102): only SENDCMD sets it. -/
def Instr.forceBit : Instr → Bool
  | .sendcmd force _ => force
  | .rdreg _ _ => false
  | .wrdata _ => false
  | .rdout => false
  | .pset _ _ => false
  | .pquery _ => false

/-- Field A of an instruction (R102). -/
def Instr.operandA : Instr → Byte
  | .sendcmd _ code => code
  | .rdreg reg _ => reg
  | .wrdata _ => 0
  | .rdout => 0
  | .pset loc _ => loc.zeroExtend 8
  | .pquery loc => loc.zeroExtend 8

/-- Field B of an instruction (R102). -/
def Instr.operandB : Instr → Byte
  | .sendcmd _ _ => 0
  | .rdreg _ count => count
  | .wrdata payload => BitVec.ofNat 8 payload.length
  | .rdout => 0
  | .pset _ value => value
  | .pquery _ => 0

/-- The payload of an instruction: WRDATA only (R100). -/
def Instr.payloadBytes : Instr → List Byte
  | .sendcmd _ _ => []
  | .rdreg _ _ => []
  | .wrdata payload => payload
  | .rdout => []
  | .pset _ _ => []
  | .pquery _ => []

/-- A request word from its fields, reserved fields 0 (R100). -/
def packWord (op : BitVec 3) (f : Bool) (a b : Byte) : BitVec 32 :=
  0#8 ++ b ++ a ++ 0#4 ++ BitVec.ofBool f ++ op

/-- The request word and payload of an instruction (R100 to R102). -/
def encode (i : Instr) : Request :=
  { word := packWord i.opcode i.forceBit i.operandA i.operandB, payload := i.payloadBytes }

/-- The request of a table row's bits: bits above `nbits` are 0, and a WRDATA word comes with a payload of as many
zero bytes as its field B says (log 10). -/
def tableRequest (nbits w : Nat) : Request :=
  let word := BitVec.ofNat 32 (w % 2 ^ nbits)
  { word := word, payload := if opField word = opWrdata then List.replicate (bField word).toNat 0 else [] }

/-- What the decoder reads from a table row's bits. -/
def decodeTableWord (nbits w : Nat) : Option Instr :=
  match decode (tableRequest nbits w) with
  | .ok i => some i
  | .error _ => none

end Sys2Proof
end

