-- ==== Sys2Proof/Machine/Operands.lean ====
section
/-! DEFINITION. The operands of the operations: the checks that depend on the configuration (spec/30_encoding.md R103
C6, C8), the packets (R111, R112, R114), the output registers (43_output_reading.md R261), the bytes WRDATA sends,
and the operation the latched registers hold. -/

namespace Sys2Proof.Machine

/-- R103 C6's bound WDATA_MAX and C8 HAS_PARAM_ACCESS: the checks that depend on the configuration. -/
def permitted (cfg : Config) : Instr → Bool
  | .sendcmd _ _ => true
  | .rdreg _ _ => true
  | .wrdata payload => decide (payload.length ≤ cfg.wdataMax)
  | .rdout => true
  | .pset _ _ => cfg.hasParamAccess
  | .pquery _ => cfg.hasParamAccess

/-- A legal operation (R103): well formed, and permitted by the configuration. -/
def legal (cfg : Config) (i : Instr) : Bool := i.wellFormed && permitted cfg i

/-- The command packet `[REG_COMMAND, code]` (R111). -/
def commandPacket (cfg : Config) (code : Byte) : List Byte := [cfg.regCommand, code]

/-- The host-input packet `[REG_HOSTIN, value]` (R114). -/
def hostinPacket (cfg : Config) (value : Byte) : List Byte := [cfg.regHostin, value]

/-- The PSET command code, tag 0b10 over the location A[5:0] (R112). -/
def psetCode (a : Byte) : Byte := 0b10#2 ++ a.extractLsb' 0 6

/-- The PQUERY command code, tag 0b01 over the location A[5:0] (R112). -/
def pqueryCode (a : Byte) : Byte := 0b01#2 ++ a.extractLsb' 0 6

/-- REG_OUT[OIDX] (43_output_reading.md R261). -/
def outRegister (cfg : Config) : Fin 4 → Byte
  | 0 => cfg.regOut0
  | 1 => cfg.regOut1
  | 2 => cfg.regOut2
  | 3 => cfg.regOut3

/-- WBUF after an accepted WRDATA (60_exceptions.md R288): bytes 0 to n - 1 are the payload, the rest stay (log 16). -/
def fillBuffer (wbuf payload : List Byte) : List Byte := payload ++ wbuf.drop payload.length

/-- The bytes WRDATA sends: WBUF[0] to WBUF[B-1] (40_transport.md R143). -/
def State.sendBytes (s : State) : List Byte := s.wbuf.take s.b.toNat

/-- The latched registers hold the operation `i`: OP, FORCE, A and B are its fields and, for WRDATA, the first B
bytes of WBUF are its payload (10_state.md R40: the instructions are the requests latched there). -/
def State.holds (s : State) (i : Instr) : Bool :=
  decide (s.op = i.opcode) && decide (s.force = i.forceBit) && decide (s.a = i.operandA) && decide (s.b = i.operandB) &&
    (decide (i.opcode ≠ opWrdata) || decide (s.sendBytes = i.payloadBytes))

end Sys2Proof.Machine
end

