-- ==== Sys2Proof/Machine/Ops.lean ====
section
/-! DEFINITION. The shared operations: the environment's answer, the bus primitives (spec/40_transport.md R140, R141),
fault entry (60_exceptions.md R283), `finish()` (00_scope.md R12), a status read, the acceptance of a request (R288),
what a request does next, and the reset action (70_reset_and_hazards.md R320). -/

namespace Sys2Proof.Machine

/-- The environment's next answer (20_memory.md R85): the first of the script, else a free answer (log 6). -/
def State.answer (s : State) : Answer :=
  match s.answers with
  | r :: _ => r
  | [] => Config.freeAnswer s.draws

/-- The state once that answer is given. -/
def State.answered (s : State) : State :=
  match s.answers with
  | _ :: rest => { s with answers := rest }
  | [] => { s with draws := s.draws + 1 }

/-- Append one event to the event record (20_memory.md R86). -/
def State.record (e : Event) (s : State) : State := { s with trace := s.trace ++ [e] }

/-- `BusWrite(bytes)` (40_transport.md R140): one write transaction; it returns nothing. -/
def State.busWrite (bytes : List Byte) (s : State) : State := s.record (.write bytes)

/-- The state after `BusRead(reg, n)` (R141): the transaction is recorded with its answer, which is `s.answer`. -/
def State.busRead (reg n : Byte) (s : State) : State := s.answered.record (.read reg n s.answer)

/-- The bus driver's calls of one transaction, in order (R140, R141). `readByte` only where data is available. -/
def Event.calls (dev : BitVec 7) : Event → List BusCall
  | .write bytes => [.beginTransmission dev, .write bytes, .endTransmission]
  | .read reg n answer =>
    [.beginTransmission dev, .write [reg], .endTransmission, .requestFrom dev n, .available] ++
      (match answer with
       | .byte v => [.readByte v]
       | .nodata => [])

/-- All driver calls so far, oldest first: every transaction goes to DEV_ADDR (20_memory.md R70, R86). -/
def State.busCalls (s : State) : List BusCall := s.trace.flatMap (Event.calls s.cfg.devAddr)

/-- Fault entry, `raise EngineFault(F)` (60_exceptions.md R283): the bit is set; ILLEGAL_REQUEST and STATUS_NODATA also
end the operation. RES, IR and VIS are not written. There is no return from it (R284). -/
def State.raise (f : EngineFault) (s : State) : State :=
  match f with
  | .startWhileBusy => { s with fault := s.fault ||| faultMask .startWhileBusy }
  | .illegalRequest =>
    { s with fault := s.fault ||| faultMask .illegalRequest, busy := false, done := true, seq := .idle }
  | .statusNodata =>
    { s with fault := s.fault ||| faultMask .statusNodata, busy := false, done := true, seq := .idle }

/-- `finish()` (00_scope.md R12). -/
def State.finish (s : State) : State := { s with busy := false, done := true, seq := .idle }

/-- `RES <- v; finish()`. -/
def State.finishWith (v : Word16) (s : State) : State := { s with res := v }.finish

/-- A status read: `r <- BusRead(REG_STATUS, 1)`, then decode (30_encoding.md R107). Where the decoder raises
STATUS_NODATA the transaction stays and the rest of the step, `next`, does not happen (60_exceptions.md R283). -/
def State.readStatus (next : Counter → Bool → State → State) (s : State) : State :=
  match decodeStatus s.cfg s.answer with
  | some (c, e) => next c e (s.busRead s.cfg.regStatus 1)
  | none => (s.busRead s.cfg.regStatus 1).raise .statusNodata

/-- The latches and flags of an accepted Start (60_exceptions.md R288): OP, FORCE, A and B, BUSY <- 1, DONE <- 0. -/
def State.accept (i : Instr) (s : State) : State :=
  { s with op := i.opcode, force := i.forceBit, a := i.operandA, b := i.operandB, busy := true, done := false }

/-- A Start of `i` while BUSY = 0 (R288): a legal one is accepted and `begin` sets the first sequencer state, any other
raises ILLEGAL_REQUEST, after DONE <- 0. -/
def State.request (i : Instr) (begin : State → State) (s : State) : State :=
  if legal s.cfg i then begin (s.accept i) else { s with done := false }.raise .illegalRequest

/-- What operation `i` does next (log 9). While BUSY = 0 it is requested: its Start. While BUSY = 1 and `i` is the
operation in progress, the engine step `own` of its sequencer state happens. While BUSY = 1 otherwise, `i` can only be a
new request, and raises START_WHILE_BUSY (R288). -/
def State.operate (i : Instr) (begin : State → State) (own : Option State) (s : State) : State :=
  if s.busy then
    match s.holds i, own with
    | true, some t => t
    | _, _ => s.raise .startWhileBusy
  else s.request i begin

/-- The reset action (70_reset_and_hazards.md R320): every engine register takes its value of 10_state.md R45, the
unspecified ones a `draw()` (log 4). No transaction; configuration, event record and environment are untouched. -/
def State.resetAction (s : State) : State :=
  { s with
    seq := .idle, busy := false, done := false, fault := 0
    op := 0, force := false, a := 0, b := 0
    wbuf := (List.range s.cfg.wdataMax).map fun k => Config.freeByte (s.draws + 7 + k)
    initCtr := 0, priorCtr := 0, retry := 0, oidx := 0
    obuf := Vector.ofFn fun k : Fin 4 => Config.freeAnswer (s.draws + 3 + k.val)
    res := Config.freeWord s.draws
    ir := Config.freeWord (s.draws + 1)
    vis := Config.freeWord (s.draws + 2)
    draws := s.draws + 7 + s.cfg.wdataMax }

end Sys2Proof.Machine
end

