-- ==== Sys2Proof/Machine/Command.lean ====
section
/-! DEFINITION. SENDCMD, the command sequencer with counter polling (spec/41_command_engine.md R172 to R181). -/

namespace Sys2Proof.Machine

/-- Step SC_INIT (R173): the initial status and the pre-check. -/
def State.scInit (s : State) : State :=
  s.readStatus fun c e t =>
    if e && !t.force then { t with initCtr := c }.finishWith (resultWord (.preheld c))
    else { t with initCtr := c, seq := .scCmd }

/-- Step SC_CMD (R174): the command write. With MAX_RETRIES = 0 no poll is allowed. -/
def State.scCmd (s : State) : State :=
  let t := { s.busWrite (commandPacket s.cfg s.a) with retry := 0 }
  if s.cfg.maxRetries = 0 then t.finishWith (resultWord .timeout) else { t with seq := .scPoll }

/-- Step SC_POLL (R175): one poll; error flag first, then the counter, then the retry limit (R176). -/
def State.scPoll (s : State) : State :=
  s.readStatus fun c e t =>
    let u := { t with retry := countPoll t.cfg t.retry }
    if e then u.finishWith (resultWord (.deviceError c))
    else if advanced u.initCtr c then u.finishWith (resultWord .success)
    else if u.retry = u.cfg.maxRetries then u.finishWith (resultWord .timeout)
    else { u with seq := .scPoll }

/-- SENDCMD (R172, 60_exceptions.md R288): Start sets SC_INIT. -/
def execSendcmd (force : Bool) (code : Byte) (s : State) : Out :=
  .next <| s.operate (.sendcmd force code) (fun t => { t with seq := .scInit })
    (match s.seq with
     | .scInit => some s.scInit
     | .scCmd => some s.scCmd
     | .scPoll => some s.scPoll
     | _ => none)

end Sys2Proof.Machine
end

