-- ==== Sys2Proof/Machine/Output.lean ====
section
/-! DEFINITION. RDOUT, the output reader (spec/43_output_reading.md R260 to R264). -/

namespace Sys2Proof.Machine

/-- The end of RDOUT once OBUF holds all four answers: `assemble()` (R262) or `fail()` (R263), then `finish()`.
After a failure IR and VIS are free values (log 5). -/
def State.roEnd (s : State) : State :=
  match channelWord s.obuf[0] s.obuf[1], channelWord s.obuf[2] s.obuf[3] with
  | some ir, some vis => { s with ir := ir, vis := vis }.finishWith 0x0000#16
  | _, _ =>
    { s with ir := Config.freeWord s.draws, vis := Config.freeWord (s.draws + 1), draws := s.draws + 2 }.finishWith
      0xFFFF#16

/-- Step RO_READ (R261): read REG_OUT[OIDX] into OBUF[OIDX]; the fourth read decides success or failure. -/
def State.roRead (s : State) : State :=
  let t := { s.busRead (outRegister s.cfg s.oidx) 1 with obuf := s.obuf.set s.oidx s.answer }
  if s.oidx < 3 then { t with oidx := s.oidx + 1, seq := .roRead } else t.roEnd

/-- RDOUT (R260, 60_exceptions.md R288): Start sets OIDX to 0 and RO_READ. -/
def execRdout (s : State) : Out :=
  .next <| s.operate .rdout (fun t => { t with oidx := 0, seq := .roRead })
    (match s.seq with
     | .roRead => some s.roRead
     | _ => none)

end Sys2Proof.Machine
end

