-- ==== Sys2Proof/Machine/Param.lean ====
section
/-! DEFINITION. PSET and PQUERY, parameter access (spec/42_param_access.md R220 to R231). The error flag is never
tested and the poll has no bound (R220, R228). -/

namespace Sys2Proof.Machine

/-- Step P_BASE (R221): the baseline status. -/
def State.pBase (s : State) : State :=
  s.readStatus fun c _ t => { t with priorCtr := c, seq := if t.op = opPset then .pHostin else .pCmd }

/-- Step P_HOSTIN (R222): write the value, PSET only. -/
def State.pHostin (s : State) : State := { s.busWrite (hostinPacket s.cfg s.b) with seq := .pCmd }

/-- Step P_CMD (R223): write the tagged command. -/
def State.pCmd (s : State) : State :=
  { s.busWrite (commandPacket s.cfg (if s.op = opPset then psetCode s.a else pqueryCode s.a)) with seq := .pPoll }

/-- Step P_POLL (R224): continue while the counter exceeds PRIOR_CTR, plain unsigned; PREVIOUS_POLL moves the baseline. -/
def State.pPoll (s : State) : State :=
  s.readStatus fun c _ t =>
    if c.toNat > t.priorCtr.toNat then
      match t.cfg.paramBaseline with
      | .previousPoll => { t with priorCtr := c, seq := .pPoll }
      | .fixedInitial => { t with seq := .pPoll }
    else if t.op = opPset then t.finish
    else { t with seq := .pRead }

/-- Step P_READ (R225): read the response value, PQUERY only; no status is decoded (R231). -/
def State.pRead (s : State) : State := (s.busRead s.cfg.regRespval 1).finishWith (answerWord s.answer)

/-- PSET (R226, 60_exceptions.md R288): Start sets P_BASE. -/
def execPset (loc : BitVec 6) (value : Byte) (s : State) : Out :=
  .next <| s.operate (.pset loc value) (fun t => { t with seq := .pBase })
    (match s.seq with
     | .pBase => some s.pBase
     | .pHostin => some s.pHostin
     | .pCmd => some s.pCmd
     | .pPoll => some s.pPoll
     | _ => none)

/-- PQUERY (R227, 60_exceptions.md R288): Start sets P_BASE. -/
def execPquery (loc : BitVec 6) (s : State) : Out :=
  .next <| s.operate (.pquery loc) (fun t => { t with seq := .pBase })
    (match s.seq with
     | .pBase => some s.pBase
     | .pCmd => some s.pCmd
     | .pPoll => some s.pPoll
     | .pRead => some s.pRead
     | _ => none)

end Sys2Proof.Machine
end

