-- ==== Sys2Proof/Machine/Transport.lean ====
section
/-! DEFINITION. WRDATA and RDREG (spec/40_transport.md R143 to R145). -/

namespace Sys2Proof.Machine

/-- Step WD_XFER (R143): write WBUF[0..B-1] as one transaction and finish. RES is not written. -/
def State.wdXfer (s : State) : State := (s.busWrite s.sendBytes).finish

/-- Step RR_XFER (R144): `r <- BusRead(A, B)`; RES takes the byte or -1. The byte is not decoded as a status. -/
def State.rrXfer (s : State) : State := (s.busRead s.a s.b).finishWith (answerWord s.answer)

/-- WRDATA (R143, 60_exceptions.md R288): Start fills WBUF and sets WD_XFER. -/
def execWrdata (payload : List Byte) (s : State) : Out :=
  .next <| s.operate (.wrdata payload) (fun t => { t with wbuf := fillBuffer t.wbuf payload, seq := .wdXfer })
    (match s.seq with
     | .wdXfer => some s.wdXfer
     | _ => none)

/-- RDREG (R144, 60_exceptions.md R288): Start sets RR_XFER. -/
def execRdreg (reg count : Byte) (s : State) : Out :=
  .next <| s.operate (.rdreg reg count) (fun t => { t with seq := .rrXfer })
    (match s.seq with
     | .rrXfer => some s.rrXfer
     | _ => none)

end Sys2Proof.Machine
end

