-- ==== Sys2Proof/Machine/Dispatch.lean ====
section
/-! DEFINITION. One arm per host operation (spec/30_encoding.md R101): what the operation does next. -/

namespace Sys2Proof.Machine

def exec (i : Instr) (s : State) : Host.Outcome State Fault Refusal :=
  match i with
  | .sendcmd force code => Sys2Proof.Machine.execSendcmd force code s
  | .rdreg reg count => Sys2Proof.Machine.execRdreg reg count s
  | .wrdata payload => Sys2Proof.Machine.execWrdata payload s
  | .rdout => Sys2Proof.Machine.execRdout s
  | .pset loc value => Sys2Proof.Machine.execPset loc value s
  | .pquery loc => Sys2Proof.Machine.execPquery loc s

end Sys2Proof.Machine
end

