-- ==== Sys2Proof/Machine/Turn.lean ====
section
/-! DEFINITION. One turn of the machine: the host's next turn (spec/60_exceptions.md R288, 70_reset_and_hazards.md
R320), or an engine step (10_state.md R32). Host actions fall between engine steps (00_scope.md R3). -/

namespace Sys2Proof.Machine

/-- One engine step: the rule of the sequencer state (10_state.md R32). In IDLE the engine takes no step: the state
stays (log 8). -/
def State.engineStep (s : State) : State :=
  match s.seq with
  | .idle => s
  | .scInit => s.scInit
  | .scCmd => s.scCmd
  | .scPoll => s.scPoll
  | .wdXfer => s.wdXfer
  | .rrXfer => s.rrXfer
  | .pBase => s.pBase
  | .pHostin => s.pHostin
  | .pCmd => s.pCmd
  | .pPoll => s.pPoll
  | .pRead => s.pRead
  | .roRead => s.roRead

/-- The Start action (60_exceptions.md R288). BUSY = 1 is tested first (R285): START_WHILE_BUSY, the request is
discarded unread. A request that decodes to no operation raises ILLEGAL_REQUEST, after DONE <- 0. An operation is run by
`exec`, which makes the checks that depend on the configuration. -/
def startAction (req : Request) (s : State) : Out :=
  if s.busy then .next (s.raise .startWhileBusy)
  else
    match decode req with
    | .ok i => exec i s
    | .error _ => .next ({ s with done := false }.raise .illegalRequest)

/-- One turn: the host's next turn if it has planned one, else an engine step. -/
def turn (s : State) : Out :=
  match s.host with
  | [] => .next s.engineStep
  | .pass :: rest => .next (State.engineStep { s with host := rest })
  | .reset :: rest => .next (State.resetAction { s with host := rest })
  | .start req :: rest => startAction req { s with host := rest }

/-- The host's very next turn is a Start of `req`, given to an idle engine: an operation in progress is abandoned first,
since a Start is run only while BUSY = 0 (log 10). -/
def State.withRequest (s : State) (req : Request) : State :=
  { s with host := .start req :: s.host, busy := false, seq := .idle }

end Sys2Proof.Machine
end

