-- ==== Sys2Proof/Machine/Step.lean ====
section
/-! DEFINITION. The step function: one turn of the machine (Machine/Turn.lean), and how an instruction is placed where
the next step takes it. -/

namespace Sys2Proof.Machine

/-- One step: one turn of the host or of the engine. -/
def step (s : State) : Host.Outcome State Fault Refusal := Sys2Proof.Machine.turn s

/-- `s` with the request of a table row's bits as the host's next turn. The engine fetches nothing (spec/20_memory.md
R83): a program is a sequence of Starts given by the host (log 10). -/
def State.withFetchWord (s : State) (nbits w : Nat) : State := s.withRequest (tableRequest nbits w)

end Sys2Proof.Machine
end

