-- ==== Sys2Proof/Machine/Asm.lean ====
section
/-! DEFINITION. The textual form of requests (spec/30_encoding.md R116, R117): one request a line, a mnemonic, then
its operands separated by commas; numbers decimal or 0x hexadecimal; `;` starts a comment. Lines are lists of
characters. What R116 leaves open (blanks, letter case, numbers over 255) is fixed in log 21. -/

namespace Sys2Proof.Machine

/-- A blank. -/
def isBlank (c : Char) : Bool := decide (c = ' ') || decide (c = '\t') || decide (c = '\r')

/-- A line without leading and trailing blanks. -/
def trimBlanks (cs : List Char) : List Char :=
  ((cs.dropWhile isBlank).reverse.dropWhile isBlank).reverse

/-- The pieces of a list of characters between separators. -/
def splitAtChar (sep : Char) : List Char → List (List Char)
  | [] => [[]]
  | c :: cs =>
    if c = sep then [] :: splitAtChar sep cs
    else
      match splitAtChar sep cs with
      | piece :: more => (c :: piece) :: more
      | [] => [[c]]

/-- The value of a digit in a base. -/
def digitValue (base : Nat) (c : Char) : Option Nat :=
  let d :=
    if '0' ≤ c ∧ c ≤ '9' then c.toNat - '0'.toNat
    else if 'a' ≤ c ∧ c ≤ 'f' then c.toNat - 'a'.toNat + 10
    else if 'A' ≤ c ∧ c ≤ 'F' then c.toNat - 'A'.toNat + 10
    else 16
  if d < base then some d else none

/-- The number written by a list of digits, after a prefix worth `acc`. -/
def digitsValue (base : Nat) : Nat → List Char → Option Nat
  | acc, [] => some acc
  | acc, c :: cs =>
    match digitValue base c with
    | some d => digitsValue base (acc * base + d) cs
    | none => none

/-- A number of R116: decimal, or 0x and hexadecimal digits. -/
def numberOf : List Char → Option Nat
  | [] => none
  | '0' :: 'x' :: c :: cs => digitsValue 16 0 (c :: cs)
  | c :: cs => digitsValue 10 0 (c :: cs)

/-- An operand byte: a number no larger than 255. -/
def byteOf (cs : List Char) : Option Byte :=
  match numberOf cs with
  | some n => if n ≤ 255 then some (BitVec.ofNat 8 n) else none
  | none => none

/-- The operand bytes of a list of operands. -/
def bytesOf : List (List Char) → Option (List Byte)
  | [] => some []
  | cs :: more =>
    match byteOf cs, bytesOf more with
    | some v, some vs => some (v :: vs)
    | _, _ => none

/-- A WRDATA request of the given payload, if its length fits field B. -/
def wrdataRequest (payload : List Byte) : Option Request :=
  if payload.length ≤ 255 then
    some { word := packWord opWrdata false 0 (BitVec.ofNat 8 payload.length), payload := payload }
  else none

/-- A request with no payload. -/
def plainRequest (op : BitVec 3) (f : Bool) (a b : Byte) : Request := { word := packWord op f a b, payload := [] }

/-- SENDCMD's optional second operand is the word `force` (R116). -/
def sendcmdRequest : List (List Char) → Option Request
  | [code] => (byteOf code).map fun v => plainRequest opSendcmd false v 0
  | [code, flag] =>
    if flag = "force".toList then (byteOf code).map fun v => plainRequest opSendcmd true v 0 else none
  | _ => none

/-- One request from its mnemonic and operands (R116), the four pseudo-instructions included (R117). Operands are placed
in their fields unchecked: an illegal request is refused at Start, not here. -/
def assembleRequest (cfg : Config) (mnemonic : List Char) (operands : List (List Char)) : Option Request :=
  if mnemonic = "SENDCMD".toList then sendcmdRequest operands
  else
    match bytesOf operands with
    | none => none
    | some vs =>
      if mnemonic = "WRDATA".toList then wrdataRequest vs
      else if mnemonic = "RDREG".toList then
        match vs with
        | [reg, count] => some (plainRequest opRdreg false reg count)
        | _ => none
      else if mnemonic = "RDOUT".toList then
        match vs with
        | [] => some (plainRequest opRdout false 0 0)
        | _ => none
      else if mnemonic = "PSET".toList then
        match vs with
        | [loc, value] => some (plainRequest opPset false loc value)
        | _ => none
      else if mnemonic = "PQUERY".toList then
        match vs with
        | [loc] => some (plainRequest opPquery false loc 0)
        | _ => none
      else if mnemonic = "FORCECMD".toList then
        match vs with
        | [code] => some (encode (Instr.forcecmd code))
        | _ => none
      else if mnemonic = "RD".toList then
        match vs with
        | [reg] => some (encode (Instr.rd reg))
        | _ => none
      else if mnemonic = "WRREG".toList then
        match vs with
        | [reg, v] => some (encode (Instr.wrreg reg v))
        | _ => none
      else if mnemonic = "CMDRAW".toList then
        match vs with
        | [code] => some (encode (Instr.cmdraw cfg.regCommand code))
        | _ => none
      else none

/-- One line: `none` where it is no line of R116, `some []` where it holds no request, else its request. -/
def assembleLine (cfg : Config) (line : List Char) : Option (List Request) :=
  let text := trimBlanks (line.takeWhile fun c => decide (c ≠ ';'))
  if text = [] then some []
  else
    let mnemonic := text.takeWhile fun c => !isBlank c
    let rest := trimBlanks (text.drop mnemonic.length)
    let operands := if rest = [] then [] else (splitAtChar ',' rest).map trimBlanks
    (assembleRequest cfg mnemonic operands).map fun r => [r]

/-- The requests of a list of lines. -/
def assembleLines (cfg : Config) : List (List Char) → Option (List Request)
  | [] => some []
  | line :: more =>
    match assembleLine cfg line, assembleLines cfg more with
    | some rs, some rest => some (rs ++ rest)
    | _, _ => none

/-- The requests of a text (R116): its lines, one request a line. -/
def assemble (cfg : Config) (text : List Char) : Option (List Request) :=
  assembleLines cfg (splitAtChar '\n' text)

end Sys2Proof.Machine
end

