-- ==== Sys2Proof/Safety.lean ====
section
/-! DEFINITION. The terms claims use: the operation in progress, the invariant every step keeps, and the premises the
spec puts on a run (no engine fault: spec/60_exceptions.md R283; ended: R296; a host that waits: R288). -/

namespace Sys2Proof.Machine

/-- The sequencer states of an operation (10_state.md R32; 42_param_access.md R226, R227). -/
def ownState (i : Instr) (q : Seq) : Bool :=
  match i with
  | .sendcmd _ _ => decide (q = .scInit ∨ q = .scCmd ∨ q = .scPoll)
  | .rdreg _ _ => decide (q = .rrXfer)
  | .wrdata _ => decide (q = .wdXfer)
  | .rdout => decide (q = .roRead)
  | .pset _ _ => decide (q = .pBase ∨ q = .pHostin ∨ q = .pCmd ∨ q = .pPoll)
  | .pquery _ => decide (q = .pBase ∨ q = .pCmd ∨ q = .pPoll ∨ q = .pRead)

/-- The operation `i` is in progress: BUSY = 1, the latched registers hold it, and SEQ is one of its states. -/
def State.Running (i : Instr) (s : State) : Prop := s.busy = true ∧ s.holds i = true ∧ ownState i s.seq = true

/-- The operation the latched registers hold, if they hold one. -/
def State.latched (s : State) : Option Instr :=
  match decodeOperands s.op s.force s.a s.b s.sendBytes with
  | .ok i => some i
  | .error _ => none

/-- While BUSY = 1 the latched registers hold a legal operation, and SEQ is one of its states. -/
def State.latchOk (s : State) : Bool :=
  !s.busy ||
    match s.latched with
    | some i => legal s.cfg i && ownState i s.seq
    | none => false

/-- The invariant. BUSY = 1 exactly when SEQ ≠ IDLE (10_state.md R32); DONE = 0 while BUSY = 1 (60_exceptions.md R288);
the latched registers hold a legal operation whose states include SEQ; RETRY is at most MAX_RETRIES, and below it at
SC_POLL (10_state.md R39); WBUF has WDATA_MAX bytes (10_state.md R31). -/
structure State.Inv (s : State) : Prop where
  busyIffNotIdle : s.busy = decide (s.seq ≠ .idle)
  notDoneWhileBusy : s.busy = true → s.done = false
  latch : s.latchOk = true
  retryBound : s.retry ≤ s.cfg.maxRetries
  retryBelow : s.seq = .scPoll → s.retry < s.cfg.maxRetries
  wbufLength : s.wbuf.length = s.cfg.wdataMax

/-- `n` steps, stopping at a fault or a refusal. -/
def run : Nat → State → Out
  | 0, s => .next s
  | n + 1, s =>
    match step s with
    | .next t => run n t
    | .fault r => .fault r
    | .refused r => .refused r

/-- No engine fault so far (60_exceptions.md R283: a claim takes FAULT = 0 as a premise). -/
def State.NoFault (s : State) : Prop := s.fault = 0

/-- An operation has ended (60_exceptions.md R296). -/
def State.Ended (s : State) : Prop := s.busy = false ∧ s.done = true

/-- The host's next turn is no Start while BUSY = 1 (60_exceptions.md R288, the host's duty). -/
def State.HostWaits (s : State) : Prop := s.busy = true → ∀ req rest, s.host ≠ .start req :: rest

/-- The host plans nothing: from here on only the engine moves. -/
def State.Alone (s : State) : Prop := s.host = []

end Sys2Proof.Machine
end

