-- ==== Sys2Proof/Certificates/Slice0/Obligations.lean ====
section
/-! DEFINITION. The statements about the machine, for the provers. Each docstring names the rule of spec/ it rests on.
Every statement is about every state and every configuration; the reference functions come first. -/

open Sys2Proof Sys2Proof.Machine

/-- The legality checks C1 to C8 of spec/30_encoding.md R103, on the bits R100 gives the fields. -/
def Claims.RequestChecks (cfg : Config) (req : Request) : Prop :=
  let op := req.word.extractLsb' 0 3
  let a := req.word.extractLsb' 8 8
  let b := req.word.extractLsb' 16 8
  (op ≠ 0b000#3 ∧ op ≠ 0b111#3) ∧
  (req.word.extractLsb' 24 8 = 0#8 ∧ req.word.extractLsb' 4 4 = 0#4) ∧
  (req.word.getLsbD 3 = true → op = 0b001#3) ∧
  ((op = 0b001#3 → b = 0#8) ∧ (op = 0b011#3 → a = 0#8) ∧ (op = 0b100#3 → a = 0#8 ∧ b = 0#8) ∧
    (op = 0b110#3 → b = 0#8)) ∧
  (op = 0b010#3 → 1 ≤ b.toNat) ∧
  (op = 0b011#3 → b.toNat ≤ cfg.wdataMax ∧ req.payload.length = b.toNat) ∧
  (op = 0b101#3 ∨ op = 0b110#3 → req.word.extractLsb' 14 2 = 0#2) ∧
  (op = 0b101#3 ∨ op = 0b110#3 → cfg.hasParamAccess = true)

/-- The first sequencer state of each operation code (60_exceptions.md R288). -/
def Claims.firstSeq (op : BitVec 3) : Seq :=
  if op = 0b001#3 then .scInit
  else if op = 0b010#3 then .rrXfer
  else if op = 0b011#3 then .wdXfer
  else if op = 0b100#3 then .roRead
  else .pBase

/-- The match and mask columns of spec/opcode_table.json, in the table's order. -/
def Claims.tableRow : Fin 6 → BitVec 32 × BitVec 32
  | 0 => (0x00000001#32, 0xFFFF00F7#32)
  | 1 => (0x00000002#32, 0xFF0000FF#32)
  | 2 => (0x00000003#32, 0xFF00FFFF#32)
  | 3 => (0x00000004#32, 0xFFFFFFFF#32)
  | 4 => (0x00000005#32, 0xFF00C0FF#32)
  | 5 => (0x00000006#32, 0xFFFFC0FF#32)

/-- The row of each instruction. -/
def Claims.rowOf : Instr → Fin 6
  | .sendcmd _ _ => 0
  | .rdreg _ _ => 1
  | .wrdata _ => 2
  | .rdout => 3
  | .pset _ _ => 4
  | .pquery _ => 5

/-- The value RES takes from one read: the byte, or -1 (40_transport.md R144). -/
def Claims.readWord : Answer → Word16
  | .byte v => v.zeroExtend 16
  | .nodata => 0xFFFF#16

/-- The register RDOUT reads at an index (43_output_reading.md R261). -/
def Claims.outReg (cfg : Config) (k : Fin 4) : Byte :=
  if k = 0 then cfg.regOut0 else if k = 1 then cfg.regOut1 else if k = 2 then cfg.regOut2 else cfg.regOut3

/-- The poll loop of the source's send_command (41_command_engine.md R175), as a function of the answers alone: the
outcome and the number of polls made, when at most `n` polls are allowed and the initial counter is `i`. -/
def Claims.pollLoop (cfg : Config) (i : Counter) : Nat → List Answer → Option (CommandResult × Nat)
  | 0, _ => some (.timeout, 0)
  | _ + 1, [] => none
  | n + 1, r :: rest =>
    match decodeStatus cfg r with
    | none => none
    | some (c, e) =>
      if e then some (.deviceError c, 1)
      else if i.toNat < c.toNat ∨ (i = 15#4 ∧ c = 0#4) then some (.success, 1)
      else (Claims.pollLoop cfg i n rest).map fun (x, k) => (x, k + 1)

/-- The poll loop of the source's param_set (42_param_access.md R224): the number of polls made and the last baseline. -/
def Claims.paramLoop (cfg : Config) : Counter → List Answer → Option (Nat × Counter)
  | _, [] => none
  | prior, r :: rest =>
    match decodeStatus cfg r with
    | none => none
    | some (c, _) =>
      if prior.toNat < c.toNat then
        (Claims.paramLoop cfg (if cfg.paramBaseline = .previousPoll then c else prior) rest).map fun (k, p) => (k + 1, p)
      else some (1, prior)

/-- RETRY + 1 in a register RETRY_W bits wide (41_command_engine.md R175, 60_exceptions.md R290). -/
def Claims.nextRetry (s : State) : Nat := (s.retry + 1) % 2 ^ s.cfg.retryW

/-- The most steps an operation makes (70_reset_and_hazards.md R332). -/
def Claims.stepBound (cfg : Config) : Instr → Nat
  | .sendcmd _ _ => 2 + cfg.maxRetries
  | .rdreg _ _ => 1
  | .wrdata _ => 1
  | .rdout => 4
  | .pset _ _ => 3 + 16
  | .pquery _ => 3 + 16

/-! ### Encoding -/

/-- 30_encoding.md R100 to R102: no field of a request is dropped by the decoder or the encoder. -/
def Obligations.DecodeAfterEncode : Prop :=
  ∀ i : Instr, i.wellFormed = true → decode (encode i) = .ok i

/-- 30_encoding.md R100, R104: a decoded request is well formed and is the encoding of its operation. -/
def Obligations.EncodeAfterDecode : Prop :=
  ∀ (req : Request) (i : Instr), decode req = .ok i →
    i.wellFormed = true ∧ (encode i).word = req.word ∧ (i.opcode = 0b011#3 → (encode i).payload = req.payload)

/-- 30_encoding.md R118: the seven worked encodings, from text to word and from word to operation. -/
def Obligations.WorkedEncodings : Prop :=
  ∀ cfg : Config,
    (assembleLine cfg "SENDCMD 0x01".toList = some [⟨0x00000101#32, []⟩] ∧
      decode ⟨0x00000101#32, []⟩ = .ok (.sendcmd false 0x01#8)) ∧
    (assembleLine cfg "SENDCMD 0x01, force".toList = some [⟨0x00000109#32, []⟩] ∧
      decode ⟨0x00000109#32, []⟩ = .ok (.sendcmd true 0x01#8)) ∧
    (assembleLine cfg "RDREG 0x11, 1".toList = some [⟨0x00011102#32, []⟩] ∧
      decode ⟨0x00011102#32, []⟩ = .ok (.rdreg 0x11#8 1#8)) ∧
    (assembleLine cfg "WRDATA 0x0B, 0x01".toList = some [⟨0x00020003#32, [0x0B#8, 0x01#8]⟩] ∧
      decode ⟨0x00020003#32, [0x0B#8, 0x01#8]⟩ = .ok (.wrdata [0x0B#8, 0x01#8])) ∧
    (assembleLine cfg "RDOUT".toList = some [⟨0x00000004#32, []⟩] ∧
      decode ⟨0x00000004#32, []⟩ = .ok .rdout) ∧
    (assembleLine cfg "PSET 0x01, 0x0F".toList = some [⟨0x000F0105#32, []⟩] ∧
      decode ⟨0x000F0105#32, []⟩ = .ok (.pset 0x01#6 0x0F#8)) ∧
    (assembleLine cfg "PQUERY 0x01".toList = some [⟨0x00000106#32, []⟩] ∧
      decode ⟨0x00000106#32, []⟩ = .ok (.pquery 0x01#6))

/-- 30_encoding.md R103, 60_exceptions.md R288, R283: a request given while BUSY = 0 is accepted exactly when C1 to C8 all
hold; else it raises ILLEGAL_REQUEST, with no bus transaction. Two clauses are the model's reading: a payload given with a
request other than WRDATA is not looked at (log 12, DEDUCED), and WBUF keeps its bytes from B up (log 16, DEDUCED). -/
def Obligations.RequestAcceptedExactlyWhenChecksHold : Prop :=
  ∀ (s : State) (req : Request) (rest : List HostTurn), s.host = .start req :: rest → s.busy = false →
    (Claims.RequestChecks s.cfg req →
      ∃ wbuf oidx, step s = .next { s with
        host := rest, busy := true, done := false
        op := req.word.extractLsb' 0 3, force := req.word.getLsbD 3
        a := req.word.extractLsb' 8 8, b := req.word.extractLsb' 16 8
        seq := Claims.firstSeq (req.word.extractLsb' 0 3), wbuf := wbuf, oidx := oidx } ∧
        (req.word.extractLsb' 0 3 = 0b011#3 → wbuf = req.payload ++ s.wbuf.drop req.payload.length) ∧
        (req.word.extractLsb' 0 3 ≠ 0b011#3 → wbuf = s.wbuf) ∧
        (req.word.extractLsb' 0 3 = 0b100#3 → oidx = 0) ∧
        (req.word.extractLsb' 0 3 ≠ 0b100#3 → oidx = s.oidx)) ∧
    (¬ Claims.RequestChecks s.cfg req →
      step s = .next { s with
        host := rest, fault := s.fault ||| 0b001#3, busy := false, done := true, seq := .idle })

/-- 95_test_vectors.md L2.1, spec/opcode_table.json: a word that decodes matches its own row of the table and no other. -/
def Obligations.DecodedWordMatchesOneTableRow : Prop :=
  ∀ (req : Request) (i : Instr) (k : Fin 6), decode req = .ok i →
    (req.word &&& (Claims.tableRow k).2 = (Claims.tableRow k).1 ↔ k = Claims.rowOf i)

/-! ### The step -/

/-- 60_exceptions.md R288: a Start while BUSY = 0 runs the operation its request decodes to. -/
def Obligations.StepRunsStartedInstruction : Prop :=
  ∀ (s : State) (req : Request) (rest : List HostTurn) (i : Instr),
    s.host = .start req :: rest → s.busy = false → decode req = .ok i → step s = exec i { s with host := rest }

/-- 10_state.md R32: while an operation is in progress and the host does nothing, each step runs that operation. -/
def Obligations.StepContinuesOperationInProgress : Prop :=
  ∀ (s : State) (i : Instr), s.Running i →
    (s.host = [] → step s = exec i s) ∧
    (∀ rest, s.host = .pass :: rest → step s = exec i { s with host := rest })

/-- 60_exceptions.md R294: in IDLE the engine takes no step and keeps all state; only a Start makes it leave IDLE. -/
def Obligations.OnlyStartLeavesIdle : Prop :=
  ∀ s : State, s.seq = .idle →
    (s.host = [] → step s = .next s) ∧
    (∀ rest, s.host = .pass :: rest → step s = .next { s with host := rest }) ∧
    (∀ t, step s = .next t → t.seq ≠ .idle → ∃ req rest, s.host = .start req :: rest)

/-- 70_reset_and_hazards.md R323, 60_exceptions.md R283: a Start while BUSY = 1 sets its FAULT bit and nothing else. -/
def Obligations.StartWhileBusyIsDiscarded : Prop :=
  ∀ (s : State) (req : Request) (rest : List HostTurn), s.host = .start req :: rest → s.busy = true →
    step s = .next { s with host := rest, fault := s.fault ||| 0b010#3 }

/-- 70_reset_and_hazards.md R320: reset at any time; the registers R45 gives no value are unconstrained. -/
def Obligations.ResetActionRestoresRegisters : Prop :=
  ∀ (s : State) (rest : List HostTurn), s.host = .reset :: rest →
    ∃ wbuf obuf res ir vis draws, wbuf.length = s.cfg.wdataMax ∧
      step s = .next { s with
        host := rest, seq := .idle, busy := false, done := false, fault := 0b000#3, op := 0, force := false, a := 0, b := 0
        initCtr := 0, priorCtr := 0, retry := 0, oidx := 0
        wbuf := wbuf, obuf := obuf, res := res, ir := ir, vis := vis, draws := draws }

/-- 10_state.md R45: the values the spec gives for reset. -/
def Obligations.ResetStateValues : Prop :=
  State.reset.seq = .idle ∧ State.reset.busy = false ∧ State.reset.done = false ∧ State.reset.fault = 0b000#3 ∧
  State.reset.op = 0 ∧ State.reset.force = false ∧ State.reset.a = 0 ∧ State.reset.b = 0 ∧
  State.reset.initCtr = 0 ∧ State.reset.priorCtr = 0 ∧ State.reset.retry = 0 ∧ State.reset.oidx = 0 ∧
  State.reset.engStatus = 0x0000#16 ∧ State.reset.trace = []

/-- 60_exceptions.md R280: no trap stops the machine. Every operation and every step answers a next state. -/
def Obligations.EveryStepAnswersNextState : Prop :=
  (∀ s : State, ∃ t, step s = .next t) ∧ (∀ (i : Instr) (s : State), ∃ t, exec i s = .next t)

/-! ### Starts -/

/-- 60_exceptions.md R288, 30_encoding.md R102: a legal request of each operation is accepted; what it latches. That WBUF
keeps its bytes from B up at a WRDATA is the model's reading (log 16, DEDUCED). -/
def Obligations.LegalOperationIsAccepted : Prop :=
  ∀ s : State, s.busy = false →
    (∀ force code, exec (.sendcmd force code) s = .next { s with
      op := 0b001#3, force := force, a := code, b := 0, busy := true, done := false, seq := .scInit }) ∧
    (∀ reg count, count ≠ 0 → exec (.rdreg reg count) s = .next { s with
      op := 0b010#3, force := false, a := reg, b := count, busy := true, done := false, seq := .rrXfer }) ∧
    (∀ payload : List Byte, payload.length ≤ 255 → payload.length ≤ s.cfg.wdataMax →
      exec (.wrdata payload) s = .next { s with
        op := 0b011#3, force := false, a := 0, b := BitVec.ofNat 8 payload.length
        wbuf := payload ++ s.wbuf.drop payload.length, busy := true, done := false, seq := .wdXfer }) ∧
    exec .rdout s = .next { s with
      op := 0b100#3, force := false, a := 0, b := 0, oidx := 0, busy := true, done := false, seq := .roRead } ∧
    (s.cfg.hasParamAccess = true → ∀ loc value, exec (.pset loc value) s = .next { s with
      op := 0b101#3, force := false, a := 0#2 ++ loc, b := value, busy := true, done := false, seq := .pBase }) ∧
    (s.cfg.hasParamAccess = true → ∀ loc, exec (.pquery loc) s = .next { s with
      op := 0b110#3, force := false, a := 0#2 ++ loc, b := 0, busy := true, done := false, seq := .pBase })

/-- 30_encoding.md R103 C5, C6, C8, 60_exceptions.md R283: an operation the checks refuse raises ILLEGAL_REQUEST. -/
def Obligations.IllegalOperationRaisesFault : Prop :=
  ∀ (s : State) (i : Instr), s.busy = false →
    ((∃ reg, i = .rdreg reg 0) ∨ (∃ payload, i = .wrdata payload ∧ (255 < payload.length ∨ s.cfg.wdataMax < payload.length)) ∨
      (s.cfg.hasParamAccess = false ∧ ((∃ loc value, i = .pset loc value) ∨ (∃ loc, i = .pquery loc)))) →
    exec i s = .next { s with fault := s.fault ||| 0b001#3, busy := false, done := true, seq := .idle }

/-! ### Transport -/

/-- 40_transport.md R143: WRDATA writes its payload as one transaction and finishes; RES is not written. -/
def Obligations.WrdataWritesPayloadOnce : Prop :=
  ∀ (s : State) (payload : List Byte), s.busy = true → s.holds (.wrdata payload) = true → s.seq = .wdXfer →
    exec (.wrdata payload) s = .next { s with
      trace := s.trace ++ [.write payload], busy := false, done := true, seq := .idle }

/-- 40_transport.md R144, R145: RDREG makes one read of `count` bytes; RES is the first byte or -1, and no fault arises. -/
def Obligations.RdregReadsFirstByte : Prop :=
  ∀ (s : State) (reg count : Byte), s.busy = true → s.holds (.rdreg reg count) = true → s.seq = .rrXfer →
    exec (.rdreg reg count) s = .next { s.answered with
      trace := s.trace ++ [.read reg count s.answer], res := Claims.readWord s.answer
      busy := false, done := true, seq := .idle }

/-- 40_transport.md R140, R141: the driver calls of the two primitives, in order, and the event recorded; every call goes
to DEV_ADDR. -/
def Obligations.BusPrimitivesMakeTheirCalls : Prop :=
  (∀ (s : State) (bytes : List Byte), (s.busWrite bytes).trace = s.trace ++ [.write bytes]) ∧
  (∀ (s : State) (reg n : Byte), (s.busRead reg n).trace = s.trace ++ [.read reg n s.answer]) ∧
  (∀ v : Byte, answerWord (.byte v) = v.zeroExtend 16) ∧ (answerWord .nodata).toInt = -1 ∧
  (∀ (s : State) (bytes : List Byte), (s.busWrite bytes).busCalls =
    s.busCalls ++ [.beginTransmission s.cfg.devAddr, .write bytes, .endTransmission]) ∧
  (∀ (s : State) (reg n v : Byte), s.answer = .byte v → (s.busRead reg n).busCalls =
    s.busCalls ++ [.beginTransmission s.cfg.devAddr, .write [reg], .endTransmission, .requestFrom s.cfg.devAddr n,
      .available, .readByte v]) ∧
  (∀ (s : State) (reg n : Byte), s.answer = .nodata → (s.busRead reg n).busCalls =
    s.busCalls ++ [.beginTransmission s.cfg.devAddr, .write [reg], .endTransmission, .requestFrom s.cfg.devAddr n,
      .available]) ∧
  (∀ (s : State) (call : BusCall), call ∈ s.busCalls →
    (∀ d, call = .beginTransmission d → d = s.cfg.devAddr) ∧ (∀ d n, call = .requestFrom d n → d = s.cfg.devAddr))

/-! ### The combinational functions -/

/-- 30_encoding.md R107: the status byte decoder, for every position of the error flag and both NODATA modes. -/
def Obligations.StatusDecoder : Prop :=
  ∀ cfg : Config,
    (cfg.errBit = .bit4 → ∀ v : Byte, decodeStatus cfg (.byte v) = some (v.extractLsb' 0 4, v.getLsbD 4)) ∧
    (cfg.errBit = .bit5 → ∀ v : Byte, decodeStatus cfg (.byte v) = some (v.extractLsb' 0 4, v.getLsbD 5)) ∧
    (cfg.errBit = .bit6 → ∀ v : Byte, decodeStatus cfg (.byte v) = some (v.extractLsb' 0 4, v.getLsbD 6)) ∧
    (cfg.errBit = .bit7 → ∀ v : Byte, decodeStatus cfg (.byte v) = some (v.extractLsb' 0 4, v.getLsbD 7)) ∧
    (cfg.nodataStatusMode = .allOnes → decodeStatus cfg .nodata = some (15#4, true)) ∧
    (cfg.nodataStatusMode = .fault → decodeStatus cfg .nodata = none)

/-- 41_command_engine.md R170: the completion detector and its truth table. -/
def Obligations.CompletionDetector : Prop :=
  ∀ i c : Counter,
    (advanced i c = true ↔ c.toNat > i.toNat ∨ (i.toNat = 15 ∧ c.toNat = 0)) ∧
    (i.toNat ≤ 14 → (advanced i c = true ↔ i.toNat + 1 ≤ c.toNat ∧ c.toNat ≤ 15)) ∧
    (i.toNat = 15 → (advanced i c = true ↔ c.toNat = 0)) ∧
    advanced i i = false ∧ advanced 14#4 0#4 = false ∧ advanced 15#4 1#4 = false

/-- 41_command_engine.md R171, 30_encoding.md R109: the result mapper as signed values, and no two outcomes share one. -/
def Obligations.ResultMapper : Prop :=
  (resultWord .success).toInt = 0 ∧ (resultWord .timeout).toInt = 17 ∧
  (∀ c : Counter, (resultWord (.deviceError c)).toInt = (c.toNat : Int) + 1) ∧
  (∀ c : Counter, (resultWord (.preheld c)).toInt = -((c.toNat : Int) + 1)) ∧
  (∀ x : CommandResult, commandResultOf (resultWord x) = some x)

/-- 10_state.md R33: the layout of ENG_STATUS. -/
def Obligations.EngStatusLayout : Prop :=
  ∀ s : State,
    s.engStatus.getLsbD 0 = s.busy ∧ s.engStatus.getLsbD 1 = s.done ∧
    s.engStatus.getLsbD 2 = s.fault.getLsbD 0 ∧ s.engStatus.getLsbD 3 = s.fault.getLsbD 1 ∧
    s.engStatus.getLsbD 4 = s.fault.getLsbD 2 ∧ (∀ k, 5 ≤ k → s.engStatus.getLsbD k = false)

/-! ### SENDCMD -/

/-- 41_command_engine.md R173: step SC_INIT, its pre-check, and STATUS_NODATA. -/
def Obligations.SendcmdInitStep : Prop :=
  ∀ (s : State) (force : Bool) (code : Byte),
    s.busy = true → s.holds (.sendcmd force code) = true → s.seq = .scInit →
    (∀ c, decodeStatus s.cfg s.answer = some (c, true) → force = false →
      exec (.sendcmd force code) s = .next { s.answered with
        trace := s.trace ++ [.read s.cfg.regStatus 1 s.answer], initCtr := c, res := -(c.zeroExtend 16 + 1#16)
        busy := false, done := true, seq := .idle }) ∧
    (∀ c e, decodeStatus s.cfg s.answer = some (c, e) → (e = false ∨ force = true) →
      exec (.sendcmd force code) s = .next { s.answered with
        trace := s.trace ++ [.read s.cfg.regStatus 1 s.answer], initCtr := c, seq := .scCmd }) ∧
    (decodeStatus s.cfg s.answer = none →
      exec (.sendcmd force code) s = .next { s.answered with
        trace := s.trace ++ [.read s.cfg.regStatus 1 s.answer], fault := s.fault ||| 0b100#3
        busy := false, done := true, seq := .idle })

/-- 41_command_engine.md R174: step SC_CMD. -/
def Obligations.SendcmdCommandStep : Prop :=
  ∀ (s : State) (force : Bool) (code : Byte),
    s.busy = true → s.holds (.sendcmd force code) = true → s.seq = .scCmd →
    (s.cfg.maxRetries = 0 → exec (.sendcmd force code) s = .next { s with
      trace := s.trace ++ [.write [s.cfg.regCommand, code]], retry := 0, res := 0x0011#16
      busy := false, done := true, seq := .idle }) ∧
    (s.cfg.maxRetries ≠ 0 → exec (.sendcmd force code) s = .next { s with
      trace := s.trace ++ [.write [s.cfg.regCommand, code]], retry := 0, seq := .scPoll })

/-- 41_command_engine.md R175, R176: step SC_POLL; the error flag before the counter, the counter before the bound. RETRY
counts in its RETRY_W bits (60_exceptions.md R290). -/
def Obligations.SendcmdPollStep : Prop :=
  ∀ (s : State) (force : Bool) (code : Byte),
    s.busy = true → s.holds (.sendcmd force code) = true → s.seq = .scPoll →
    (∀ c, decodeStatus s.cfg s.answer = some (c, true) →
      exec (.sendcmd force code) s = .next { s.answered with
        trace := s.trace ++ [.read s.cfg.regStatus 1 s.answer], retry := Claims.nextRetry s, res := c.zeroExtend 16 + 1#16
        busy := false, done := true, seq := .idle }) ∧
    (∀ c, decodeStatus s.cfg s.answer = some (c, false) →
      (s.initCtr.toNat < c.toNat ∨ (s.initCtr = 15#4 ∧ c = 0#4)) →
      exec (.sendcmd force code) s = .next { s.answered with
        trace := s.trace ++ [.read s.cfg.regStatus 1 s.answer], retry := Claims.nextRetry s, res := 0x0000#16
        busy := false, done := true, seq := .idle }) ∧
    (∀ c, decodeStatus s.cfg s.answer = some (c, false) →
      ¬ (s.initCtr.toNat < c.toNat ∨ (s.initCtr = 15#4 ∧ c = 0#4)) → Claims.nextRetry s = s.cfg.maxRetries →
      exec (.sendcmd force code) s = .next { s.answered with
        trace := s.trace ++ [.read s.cfg.regStatus 1 s.answer], retry := Claims.nextRetry s, res := 0x0011#16
        busy := false, done := true, seq := .idle }) ∧
    (∀ c, decodeStatus s.cfg s.answer = some (c, false) →
      ¬ (s.initCtr.toNat < c.toNat ∨ (s.initCtr = 15#4 ∧ c = 0#4)) → Claims.nextRetry s ≠ s.cfg.maxRetries →
      exec (.sendcmd force code) s = .next { s.answered with
        trace := s.trace ++ [.read s.cfg.regStatus 1 s.answer], retry := Claims.nextRetry s }) ∧
    (decodeStatus s.cfg s.answer = none →
      exec (.sendcmd force code) s = .next { s.answered with
        trace := s.trace ++ [.read s.cfg.regStatus 1 s.answer], fault := s.fault ||| 0b100#3
        busy := false, done := true, seq := .idle })

/-- 41_command_engine.md R180: NODATA during SENDCMD, in both NODATA modes. -/
def Obligations.NodataDuringSendcmd : Prop :=
  ∀ (s : State) (force : Bool) (code : Byte),
    s.busy = true → s.holds (.sendcmd force code) = true → s.answer = .nodata →
    (s.cfg.nodataStatusMode = .allOnes →
      (s.seq = .scInit → force = false → ∃ t, exec (.sendcmd force code) s = .next t ∧
        t.res = 0xFFF0#16 ∧ t.busy = false ∧ t.done = true ∧
        t.trace = s.trace ++ [.read s.cfg.regStatus 1 .nodata]) ∧
      (s.seq = .scInit → force = true → s.host = [] → ∃ t u, exec (.sendcmd force code) s = .next t ∧
        t.initCtr = 15#4 ∧ t.busy = true ∧ step t = .next u ∧
        u.trace = s.trace ++ [.read s.cfg.regStatus 1 .nodata, .write [s.cfg.regCommand, code]]) ∧
      (s.seq = .scPoll → ∃ t, exec (.sendcmd force code) s = .next t ∧
        t.res = 0x0010#16 ∧ t.busy = false ∧ t.done = true)) ∧
    (s.cfg.nodataStatusMode = .fault → (s.seq = .scInit ∨ s.seq = .scPoll) →
      ∃ t, exec (.sendcmd force code) s = .next t ∧
        t.fault = s.fault ||| 0b100#3 ∧ t.res = s.res ∧ t.busy = false ∧ t.done = true)

/-! ### PSET and PQUERY -/

/-- 42_param_access.md R221: step P_BASE; the error flag is ignored. -/
def Obligations.ParamBaseStep : Prop :=
  ∀ (s : State) (loc : BitVec 6) (value : Byte) (i : Instr), (i = .pset loc value ∨ i = .pquery loc) →
    s.busy = true → s.holds i = true → s.seq = .pBase →
    (∀ c e, decodeStatus s.cfg s.answer = some (c, e) →
      exec i s = .next { s.answered with
        trace := s.trace ++ [.read s.cfg.regStatus 1 s.answer], priorCtr := c
        seq := if i = .pset loc value then .pHostin else .pCmd }) ∧
    (decodeStatus s.cfg s.answer = none →
      exec i s = .next { s.answered with
        trace := s.trace ++ [.read s.cfg.regStatus 1 s.answer], fault := s.fault ||| 0b100#3
        busy := false, done := true, seq := .idle })

/-- 42_param_access.md R222, R223, 30_encoding.md R112, R114: the value packet and the tagged command packets. -/
def Obligations.ParamWriteSteps : Prop :=
  ∀ (s : State) (loc : BitVec 6) (value : Byte), s.busy = true →
    (s.holds (.pset loc value) = true → s.seq = .pHostin →
      exec (.pset loc value) s = .next { s with
        trace := s.trace ++ [.write [s.cfg.regHostin, value]], seq := .pCmd }) ∧
    (s.holds (.pset loc value) = true → s.seq = .pCmd →
      exec (.pset loc value) s = .next { s with
        trace := s.trace ++ [.write [s.cfg.regCommand, 0x80#8 ||| loc.zeroExtend 8]], seq := .pPoll }) ∧
    (s.holds (.pquery loc) = true → s.seq = .pCmd →
      exec (.pquery loc) s = .next { s with
        trace := s.trace ++ [.write [s.cfg.regCommand, 0x40#8 ||| loc.zeroExtend 8]], seq := .pPoll })

/-- 42_param_access.md R224: step P_POLL, in both baseline modes. -/
def Obligations.ParamPollStep : Prop :=
  ∀ (s : State) (loc : BitVec 6) (value : Byte) (i : Instr), (i = .pset loc value ∨ i = .pquery loc) →
    s.busy = true → s.holds i = true → s.seq = .pPoll →
    (∀ c e, decodeStatus s.cfg s.answer = some (c, e) → s.priorCtr.toNat < c.toNat →
      exec i s = .next { s.answered with
        trace := s.trace ++ [.read s.cfg.regStatus 1 s.answer]
        priorCtr := if s.cfg.paramBaseline = .previousPoll then c else s.priorCtr }) ∧
    (∀ c e, decodeStatus s.cfg s.answer = some (c, e) → c.toNat ≤ s.priorCtr.toNat → i = .pset loc value →
      exec i s = .next { s.answered with
        trace := s.trace ++ [.read s.cfg.regStatus 1 s.answer], busy := false, done := true, seq := .idle }) ∧
    (∀ c e, decodeStatus s.cfg s.answer = some (c, e) → c.toNat ≤ s.priorCtr.toNat → i = .pquery loc →
      exec i s = .next { s.answered with
        trace := s.trace ++ [.read s.cfg.regStatus 1 s.answer], seq := .pRead }) ∧
    (decodeStatus s.cfg s.answer = none →
      exec i s = .next { s.answered with
        trace := s.trace ++ [.read s.cfg.regStatus 1 s.answer], fault := s.fault ||| 0b100#3
        busy := false, done := true, seq := .idle })

/-- 42_param_access.md R225: step P_READ; NODATA is the value -1 in every mode (R231). -/
def Obligations.ParamReadStep : Prop :=
  ∀ (s : State) (loc : BitVec 6), s.busy = true → s.holds (.pquery loc) = true → s.seq = .pRead →
    exec (.pquery loc) s = .next { s.answered with
      trace := s.trace ++ [.read s.cfg.regRespval 1 s.answer], res := Claims.readWord s.answer
      busy := false, done := true, seq := .idle }

/-- 42_param_access.md R231: NODATA during parameter access, in both NODATA modes. -/
def Obligations.NodataDuringParameterAccess : Prop :=
  ∀ (s : State) (loc : BitVec 6) (value : Byte) (i : Instr), (i = .pset loc value ∨ i = .pquery loc) →
    s.busy = true → s.holds i = true →
    (s.cfg.nodataStatusMode = .allOnes → s.answer = .nodata → s.seq = .pBase →
      ∃ t, exec i s = .next t ∧ t.priorCtr = 15#4 ∧ t.busy = true) ∧
    (s.seq = .pPoll → s.priorCtr = 15#4 → ∃ t, exec i s = .next t ∧ t.seq ≠ .pPoll) ∧
    (s.cfg.nodataStatusMode = .allOnes → s.answer = .nodata → s.seq = .pPoll →
      ((∃ t, exec i s = .next t ∧ t.seq = .pPoll) ↔ s.priorCtr.toNat < 15)) ∧
    (s.cfg.nodataStatusMode = .allOnes → s.cfg.paramBaseline = .fixedInitial → s.seq = .pPoll → s.priorCtr.toNat < 15 →
      s.host = [] → ∀ n, n ≤ s.answers.length → (∀ r ∈ s.answers.take n, r = .nodata) →
      ∃ t, run n s = .next t ∧ t.seq = .pPoll ∧ t.busy = true ∧ t.priorCtr = s.priorCtr) ∧
    (s.cfg.nodataStatusMode = .fault → s.answer = .nodata → (s.seq = .pBase ∨ s.seq = .pPoll) →
      ∃ t, exec i s = .next t ∧ t.fault = s.fault ||| 0b100#3 ∧ t.res = s.res ∧ t.busy = false ∧ t.done = true) ∧
    (i = .pquery loc → s.answer = .nodata → s.seq = .pRead →
      ∃ t, exec i s = .next t ∧ t.res = 0xFFFF#16 ∧ t.fault = s.fault ∧ t.busy = false ∧ t.done = true)

/-! ### RDOUT -/

/-- 43_output_reading.md R261 to R263: step RO_READ. After a failed RDOUT, IR and VIS are unconstrained. -/
def Obligations.RdoutReadStep : Prop :=
  ∀ s : State, s.busy = true → s.holds .rdout = true → s.seq = .roRead →
    (s.oidx ≠ 3 → exec .rdout s = .next { s.answered with
      trace := s.trace ++ [.read (Claims.outReg s.cfg s.oidx) 1 s.answer]
      obuf := s.obuf.set s.oidx s.answer, oidx := s.oidx + 1 }) ∧
    (s.oidx = 3 → ∀ h l h' l' : Byte,
      s.obuf[0] = .byte h → s.obuf[1] = .byte l → s.obuf[2] = .byte h' → s.answer = .byte l' →
      exec .rdout s = .next { s.answered with
        trace := s.trace ++ [.read s.cfg.regOut3 1 s.answer], obuf := s.obuf.set 3 s.answer
        ir := h ++ l, vis := h' ++ l', res := 0x0000#16, busy := false, done := true, seq := .idle }) ∧
    (s.oidx = 3 →
      (s.obuf[0] = .nodata ∨ s.obuf[1] = .nodata ∨ s.obuf[2] = .nodata ∨ s.answer = .nodata) →
      ∃ ir vis draws, exec .rdout s = .next { s.answered with
        trace := s.trace ++ [.read s.cfg.regOut3 1 s.answer], obuf := s.obuf.set 3 s.answer
        ir := ir, vis := vis, draws := draws, res := 0xFFFF#16, busy := false, done := true, seq := .idle })

/-! ### Frames -/

/-- 40_transport.md R143, R144, 10_state.md R31 (written by): what WRDATA and RDREG leave unchanged. -/
def Obligations.TransportFrame : Prop :=
  ∀ (s t : State) (i : Instr), exec i s = .next t →
    ((∃ payload, i = .wrdata payload) ∨ (∃ reg count, i = .rdreg reg count)) →
    (t.initCtr = s.initCtr ∧ t.priorCtr = s.priorCtr ∧ t.retry = s.retry ∧ t.oidx = s.oidx ∧ t.obuf = s.obuf ∧
      t.ir = s.ir ∧ t.vis = s.vis ∧ t.cfg = s.cfg ∧ t.host = s.host) ∧
    (∀ payload, i = .wrdata payload →
      t.res = s.res ∧ t.answers = s.answers ∧ t.draws = s.draws ∧
      (s.busy = true → t.wbuf = s.wbuf) ∧ (t.trace = s.trace ∨ t.trace = s.trace ++ [.write payload])) ∧
    (∀ reg count, i = .rdreg reg count →
      t.wbuf = s.wbuf ∧ (t.trace = s.trace ∨ t.trace = s.trace ++ [.read reg count s.answer])) ∧
    (s.busy = true → t.op = s.op ∧ t.force = s.force ∧ t.a = s.a ∧ t.b = s.b) ∧
    (s.busy = false → t.res = s.res ∧ t.trace = s.trace ∧ t.answers = s.answers ∧ t.draws = s.draws) ∧
    (t.fault = s.fault ∨ t.fault = s.fault ||| 0b001#3 ∨ t.fault = s.fault ||| 0b010#3)

/-- 41_command_engine.md R172, 10_state.md R31: what SENDCMD leaves unchanged. -/
def Obligations.SendcmdFrame : Prop :=
  ∀ (s t : State) (force : Bool) (code : Byte), exec (.sendcmd force code) s = .next t →
    (t.priorCtr = s.priorCtr ∧ t.oidx = s.oidx ∧ t.obuf = s.obuf ∧ t.ir = s.ir ∧ t.vis = s.vis ∧ t.wbuf = s.wbuf ∧
      t.cfg = s.cfg ∧ t.host = s.host) ∧
    (t.trace = s.trace ∨ t.trace = s.trace ++ [.read s.cfg.regStatus 1 s.answer] ∨
      t.trace = s.trace ++ [.write [s.cfg.regCommand, code]]) ∧
    (s.busy = true → t.op = s.op ∧ t.force = s.force ∧ t.a = s.a ∧ t.b = s.b) ∧
    (s.busy = true → t.busy = true → t.res = s.res) ∧
    (t.initCtr ≠ s.initCtr → s.seq = .scInit) ∧
    (t.retry ≠ s.retry → s.seq = .scCmd ∨ s.seq = .scPoll) ∧
    (s.busy = false → t.res = s.res ∧ t.initCtr = s.initCtr ∧ t.retry = s.retry ∧ t.trace = s.trace ∧
      t.answers = s.answers ∧ t.draws = s.draws) ∧
    (t.fault = s.fault ∨ t.fault = s.fault ||| 0b010#3 ∨ t.fault = s.fault ||| 0b100#3)

/-- 42_param_access.md R226, R227, 10_state.md R31, R35, 20_memory.md R71: what PSET and PQUERY leave unchanged, and which
device registers each reads and writes; PSET never writes RES. -/
def Obligations.ParamFrame : Prop :=
  ∀ (s t : State) (i : Instr), exec i s = .next t →
    ((∃ loc value, i = .pset loc value) ∨ (∃ loc, i = .pquery loc)) →
    (t.initCtr = s.initCtr ∧ t.retry = s.retry ∧ t.oidx = s.oidx ∧ t.obuf = s.obuf ∧ t.ir = s.ir ∧ t.vis = s.vis ∧
      t.wbuf = s.wbuf ∧ t.cfg = s.cfg ∧ t.host = s.host) ∧
    ((∃ loc value, i = .pset loc value) → t.res = s.res) ∧
    (t.res ≠ s.res → s.seq = .pRead) ∧
    (t.priorCtr ≠ s.priorCtr → s.seq = .pBase ∨ s.seq = .pPoll) ∧
    (∀ loc value, i = .pset loc value →
      t.trace = s.trace ∨
      ((s.seq = .pBase ∨ s.seq = .pPoll) ∧ t.trace = s.trace ++ [.read s.cfg.regStatus 1 s.answer]) ∨
      (s.seq = .pHostin ∧ t.trace = s.trace ++ [.write (hostinPacket s.cfg value)]) ∨
      (s.seq = .pCmd ∧ t.trace = s.trace ++ [.write (commandPacket s.cfg (psetCode s.a))])) ∧
    (∀ loc, i = .pquery loc →
      t.trace = s.trace ∨
      ((s.seq = .pBase ∨ s.seq = .pPoll) ∧ t.trace = s.trace ++ [.read s.cfg.regStatus 1 s.answer]) ∨
      (s.seq = .pCmd ∧ t.trace = s.trace ++ [.write (commandPacket s.cfg (pqueryCode s.a))]) ∨
      (s.seq = .pRead ∧ t.trace = s.trace ++ [.read s.cfg.regRespval 1 s.answer])) ∧
    (s.busy = true → t.op = s.op ∧ t.force = s.force ∧ t.a = s.a ∧ t.b = s.b) ∧
    (s.busy = false → t.priorCtr = s.priorCtr ∧ t.res = s.res ∧ t.trace = s.trace ∧ t.answers = s.answers ∧
      t.draws = s.draws) ∧
    (t.fault = s.fault ∨ t.fault = s.fault ||| 0b001#3 ∨ t.fault = s.fault ||| 0b010#3 ∨ t.fault = s.fault ||| 0b100#3)

/-- 43_output_reading.md R260, 10_state.md R31: what RDOUT leaves unchanged; it never raises STATUS_NODATA. -/
def Obligations.RdoutFrame : Prop :=
  ∀ s t : State, exec .rdout s = .next t →
    (t.initCtr = s.initCtr ∧ t.priorCtr = s.priorCtr ∧ t.retry = s.retry ∧ t.wbuf = s.wbuf ∧ t.cfg = s.cfg ∧
      t.host = s.host) ∧
    (t.trace = s.trace ∨ t.trace = s.trace ++ [.read (Claims.outReg s.cfg s.oidx) 1 s.answer]) ∧
    (∀ k : Fin 4, k ≠ s.oidx → t.obuf[k] = s.obuf[k]) ∧
    (s.busy = true → t.op = s.op ∧ t.force = s.force ∧ t.a = s.a ∧ t.b = s.b) ∧
    (s.busy = true → t.busy = true → t.res = s.res ∧ t.ir = s.ir ∧ t.vis = s.vis) ∧
    (s.busy = false → t.res = s.res ∧ t.ir = s.ir ∧ t.vis = s.vis ∧ t.obuf = s.obuf ∧ t.trace = s.trace ∧
      t.answers = s.answers ∧ t.draws = s.draws) ∧
    (t.fault = s.fault ∨ t.fault = s.fault ||| 0b010#3)

/-! ### Invariants and whole-machine rules -/

/-- 10_state.md R31, R32, R39, R42: every step keeps the invariant of Safety.lean. -/
def Obligations.StepKeepsTheMachineInvariant : Prop :=
  ∀ s t : State, s.Inv → step s = .next t → t.Inv

/-- 10_state.md R45: the invariant holds after reset. -/
def Obligations.ResetMeetsTheMachineInvariant : Prop :=
  State.reset.Inv

/-- 10_state.md R39, 60_exceptions.md R290, 00_scope.md R8: RETRY holds RETRY_W bits, from every state in which it does;
where the invariant holds it never exceeds MAX_RETRIES, and no poll makes it wrap. -/
def Obligations.RetryNeverWraps : Prop :=
  ∀ s t : State, step s = .next t →
    (s.retry < 2 ^ s.cfg.retryW → t.retry < 2 ^ t.cfg.retryW) ∧
    (s.Inv → t.retry ≤ t.cfg.maxRetries ∧ t.retry < 2 ^ t.cfg.retryW) ∧
    (s.Inv → s.seq = .scPoll → Claims.nextRetry s = s.retry + 1)

/-- 10_state.md R34, 60_exceptions.md R282: FAULT bits are sticky, each has its one cause, and only reset clears them. -/
def Obligations.FaultBitsAreSticky : Prop :=
  ∀ s t : State, step s = .next t →
    ((∃ rest, s.host = .reset :: rest) → t.fault = 0b000#3) ∧
    ((∀ rest, s.host ≠ .reset :: rest) → s.fault &&& t.fault = s.fault) ∧
    (t.fault.getLsbD 0 = true → s.fault.getLsbD 0 = false →
      s.busy = false ∧ ∃ req rest, s.host = .start req :: rest ∧ ¬ Claims.RequestChecks s.cfg req) ∧
    (t.fault.getLsbD 1 = true → s.fault.getLsbD 1 = false →
      s.busy = true ∧ ∃ req rest, s.host = .start req :: rest) ∧
    (t.fault.getLsbD 2 = true → s.fault.getLsbD 2 = false →
      (s.seq = .scInit ∨ s.seq = .scPoll ∨ s.seq = .pBase ∨ s.seq = .pPoll) ∧
      s.answer = .nodata ∧ s.cfg.nodataStatusMode = .fault ∧
      t.trace = s.trace ++ [.read s.cfg.regStatus 1 .nodata])

/-- 60_exceptions.md R283: the operation in progress is unaffected by FAULT: no step reads it. -/
def Obligations.FaultBitsInfluenceNothing : Prop :=
  ∀ (s t : State) (f : BitVec 3), step s = .next t →
    ∃ u, step { s with fault := f } = .next u ∧ { u with fault := t.fault } = t

/-- 00_scope.md R3, R13, 20_memory.md R85, R86: a step makes at most one transaction, recorded as one event with the
environment's answer; host actions make none. -/
def Obligations.AtMostOneTransactionPerStep : Prop :=
  ∀ s t : State, step s = .next t →
    ((t.trace = s.trace ∧ t.answers = s.answers) ∨
      (∃ bytes, t.trace = s.trace ++ [.write bytes] ∧ t.answers = s.answers) ∨
      (∃ reg count, t.trace = s.trace ++ [.read reg count s.answer] ∧ t.answers = s.answers.tail)) ∧
    ((∃ turn rest, s.host = turn :: rest ∧ turn ≠ .pass) → t.trace = s.trace ∧ t.answers = s.answers)

/-- 00_scope.md R8, 10_state.md R30: no step changes the configuration; a step uses up at most one host turn. -/
def Obligations.ConfigurationIsStatic : Prop :=
  ∀ s t : State, step s = .next t → t.cfg = s.cfg ∧ t.host = s.host.tail

/-- 10_state.md R42 (4), 60_exceptions.md R296: when DONE is cleared, when it is set, and that an operation ends with it. -/
def Obligations.DoneMarksTheEnd : Prop :=
  ∀ s t : State, s.Inv → step s = .next t → (∀ rest, s.host ≠ .reset :: rest) →
    (s.busy = true → t.busy = false → t.done = true) ∧
    (s.done = true → t.done = false → s.busy = false ∧ t.busy = true ∧ ∃ req rest, s.host = .start req :: rest) ∧
    (s.done = false → t.done = true → t.busy = false ∧ t.seq = .idle) ∧
    (s.busy = true → (∃ req rest, s.host = .start req :: rest) → t.done = s.done)

/-- 10_state.md R31, R35: who writes RES, IR and VIS. An operation that ends in an engine fault writes none of them. -/
def Obligations.ResultRegistersWriters : Prop :=
  ∀ s t : State, step s = .next t → (∀ rest, s.host ≠ .reset :: rest) →
    (t.res ≠ s.res →
      (s.seq = .scInit ∨ s.seq = .scCmd ∨ s.seq = .scPoll ∨ s.seq = .rrXfer ∨ s.seq = .pRead ∨ s.seq = .roRead) ∧
      t.fault = s.fault ∧ t.busy = false ∧ t.done = true) ∧
    ((t.ir ≠ s.ir ∨ t.vis ≠ s.vis) → s.seq = .roRead ∧ s.oidx = 3 ∧ t.fault = s.fault ∧ t.busy = false ∧ t.done = true)

/-! ### Whole operations -/

/-- 41_command_engine.md R172 to R178: a SENDCMD run step by step is the source's algorithm on the answers: the result,
the number of polls, the transactions, and every other register unchanged. -/
def Obligations.SendcmdRunsTheAlgorithm : Prop :=
  ∀ (s : State) (force : Bool) (code : Byte) (r : Answer) (rest : List Answer) (c : Counter) (e : Bool),
    s.Running (.sendcmd force code) → s.seq = .scInit → s.host = [] → s.answers = r :: rest →
    decodeStatus s.cfg r = some (c, e) →
    (e = true → force = false →
      run 1 s = .next { s with
        initCtr := c, res := -(c.zeroExtend 16 + 1#16), busy := false, done := true, seq := .idle, answers := rest
        trace := s.trace ++ [.read s.cfg.regStatus 1 r] }) ∧
    (∀ x k, (e = false ∨ force = true) → Claims.pollLoop s.cfg c s.cfg.maxRetries rest = some (x, k) →
      run (2 + k) s = .next { s with
        initCtr := c, retry := k, res := resultWord x, busy := false, done := true, seq := .idle
        answers := rest.drop k
        trace := s.trace ++ [.read s.cfg.regStatus 1 r, .write [s.cfg.regCommand, code]] ++
          (rest.take k).map (.read s.cfg.regStatus 1) })

/-- 42_param_access.md R220, R226: a PSET run step by step is the source's algorithm; RES is unchanged. -/
def Obligations.PsetRunsTheAlgorithm : Prop :=
  ∀ (s : State) (loc : BitVec 6) (value : Byte) (r : Answer) (rest : List Answer) (c p : Counter) (e : Bool) (k : Nat),
    s.Running (.pset loc value) → s.seq = .pBase → s.host = [] → s.answers = r :: rest →
    decodeStatus s.cfg r = some (c, e) → Claims.paramLoop s.cfg c rest = some (k, p) →
    run (3 + k) s = .next { s with
      priorCtr := p, busy := false, done := true, seq := .idle, answers := rest.drop k
      trace := s.trace ++ [.read s.cfg.regStatus 1 r, .write [s.cfg.regHostin, value],
        .write [s.cfg.regCommand, 0b10#2 ++ loc]] ++ (rest.take k).map (.read s.cfg.regStatus 1) }

/-- 42_param_access.md R220, R227: a PQUERY run step by step is the source's algorithm. -/
def Obligations.PqueryRunsTheAlgorithm : Prop :=
  ∀ (s : State) (loc : BitVec 6) (r v : Answer) (rest more : List Answer) (c p : Counter) (e : Bool) (k : Nat),
    s.Running (.pquery loc) → s.seq = .pBase → s.host = [] → s.answers = r :: rest →
    decodeStatus s.cfg r = some (c, e) → Claims.paramLoop s.cfg c rest = some (k, p) → rest.drop k = v :: more →
    run (3 + k) s = .next { s with
      priorCtr := p, res := Claims.readWord v, busy := false, done := true, seq := .idle, answers := more
      trace := s.trace ++ [.read s.cfg.regStatus 1 r, .write [s.cfg.regCommand, 0b01#2 ++ loc]] ++
        (rest.take k).map (.read s.cfg.regStatus 1) ++ [.read s.cfg.regRespval 1 v] }

/-- 43_output_reading.md R260 to R263: four reads, always; both channels, or -1. -/
def Obligations.RdoutRunsFourReads : Prop :=
  ∀ (s : State) (r0 r1 r2 r3 : Answer) (rest : List Answer),
    s.Running .rdout → s.oidx = 0 → s.host = [] → s.answers = r0 :: r1 :: r2 :: r3 :: rest →
    ∃ res ir vis draws, run 4 s = .next { s with
        obuf := #v[r0, r1, r2, r3], oidx := 3, res := res, ir := ir, vis := vis, draws := draws
        busy := false, done := true, seq := .idle, answers := rest
        trace := s.trace ++ [.read s.cfg.regOut0 1 r0, .read s.cfg.regOut1 1 r1, .read s.cfg.regOut2 1 r2,
          .read s.cfg.regOut3 1 r3] } ∧
      (∀ h l h' l' : Byte, r0 = .byte h → r1 = .byte l → r2 = .byte h' → r3 = .byte l' →
        res = 0x0000#16 ∧ ir.toNat = h.toNat * 256 + l.toNat ∧ vis.toNat = h'.toNat * 256 + l'.toNat) ∧
      ((r0 = .nodata ∨ r1 = .nodata ∨ r2 = .nodata ∨ r3 = .nodata) → res = 0xFFFF#16)

/-- 42_param_access.md R229: when the parameter poll ends, in both baseline modes. -/
def Obligations.ParameterPollTermination : Prop :=
  ∀ (s : State) (loc : BitVec 6) (value : Byte) (i : Instr), (i = .pset loc value ∨ i = .pquery loc) →
    s.Running i → s.seq = .pPoll → s.host = [] →
    (s.cfg.paramBaseline = .previousPoll →
      ∃ k t, 1 ≤ k ∧ k ≤ 16 - s.priorCtr.toNat ∧ run k s = .next t ∧ t.seq ≠ .pPoll ∧
        t.trace.length = s.trace.length + k) ∧
    (s.cfg.paramBaseline = .previousPoll →
      ∀ t, run 1 s = .next t → t.seq = .pPoll → s.priorCtr.toNat < t.priorCtr.toNat) ∧
    (s.cfg.paramBaseline = .fixedInitial →
      (∀ n, n ≤ s.answers.length →
        (∀ r ∈ s.answers.take n, ∃ c e, decodeStatus s.cfg r = some (c, e) ∧ s.priorCtr.toNat < c.toNat) →
        ∃ t, run n s = .next t ∧ t.seq = .pPoll ∧ t.busy = true ∧ t.priorCtr = s.priorCtr) ∧
      (s.priorCtr = 15#4 → ∃ t, run 1 s = .next t ∧ t.seq ≠ .pPoll)) ∧
    ((∃ c e, decodeStatus s.cfg s.answer = some (c, e) ∧ c.toNat ≤ s.priorCtr.toNat) →
      ∃ t, run 1 s = .next t ∧ t.seq ≠ .pPoll)

/-- 70_reset_and_hazards.md R331, R332: left alone, every operation ends within its transaction count, whatever the
environment answers, except PSET and PQUERY under FIXED_INITIAL. It rests on log 20 (DESIGN CHOICE, unsafe): every
transaction completes, as R331 takes it to. -/
def Obligations.BoundedOperationsEnd : Prop :=
  ∀ (s : State) (i : Instr), s.Inv → s.Running i → s.host = [] →
    (s.cfg.paramBaseline = .fixedInitial → (∀ loc value, i ≠ .pset loc value) ∧ (∀ loc, i ≠ .pquery loc)) →
    ∃ n t, 1 ≤ n ∧ n ≤ Claims.stepBound s.cfg i ∧ run n s = .next t ∧ t.Ended ∧ t.seq = .idle ∧
      t.trace.length = s.trace.length + n

/-- 10_state.md R41: no register carries information from one operation into the next. Two idle engines that agree on the
configuration, on what the host and the environment do, and on what has happened on the bus stay so, whatever their
registers hold; and their results agree wherever they agreed before. That RES, IR and VIS agree after a reset, or IR and
VIS after a failed RDOUT, is the model's own: equal draws give equal free values (log 4, 5, 22); R45 and R263 give those
registers no value, and no claim about the hardware may read them there. -/
def Obligations.StaleRegistersAreNotObserved : Prop :=
  ∀ s u : State, s.seq = .idle → s.busy = false → u.seq = .idle → u.busy = false →
    s.cfg = u.cfg → s.host = u.host → s.answers = u.answers → s.draws = u.draws → s.trace = u.trace →
    ∀ n, ∃ s' u', run n s = .next s' ∧ run n u = .next u' ∧ s'.trace = u'.trace ∧ s'.busy = u'.busy ∧
      s'.answers = u'.answers ∧ (s.res = u.res → s'.res = u'.res) ∧ (s.ir = u.ir → s'.ir = u'.ir) ∧
      (s.vis = u.vis → s'.vis = u'.vis)
end

