-- ==== Sys2Proof/Laws/Decode.lean ====
section
/-! SUPPORT. The fields of a packed request word (spec/30_encoding.md R100). -/

namespace Sys2Proof

theorem packWord_getLsbD (op : BitVec 3) (f : Bool) (a b : Byte) (k : Nat) :
    (packWord op f a b).getLsbD k =
      if k < 3 then op.getLsbD k
      else if k < 4 then f
      else if k < 8 then false
      else if k < 16 then a.getLsbD (k - 8)
      else if k < 24 then b.getLsbD (k - 16)
      else false := by
  simp only [packWord, BitVec.getLsbD_append, BitVec.getLsbD_ofBool, BitVec.getLsbD_zero]
  split_ifs <;> first | rfl | omega | simp_all

@[simp] theorem opField_packWord (op : BitVec 3) (f : Bool) (a b : Byte) : opField (packWord op f a b) = op := by
  ext k hk
  simp [opField, packWord_getLsbD, hk]

@[simp] theorem forceField_packWord (op : BitVec 3) (f : Bool) (a b : Byte) : forceField (packWord op f a b) = f := by
  rw [forceField, packWord_getLsbD]
  rfl

@[simp] theorem rsv0Field_packWord (op : BitVec 3) (f : Bool) (a b : Byte) : rsv0Field (packWord op f a b) = 0 := by
  ext k hk
  simp only [rsv0Field, BitVec.getElem_extractLsb', packWord_getLsbD]
  split_ifs <;> first | omega | simp

@[simp] theorem aField_packWord (op : BitVec 3) (f : Bool) (a b : Byte) : aField (packWord op f a b) = a := by
  ext k hk
  simp only [aField, BitVec.getElem_extractLsb', packWord_getLsbD]
  split_ifs <;> first | omega | simp [hk]

@[simp] theorem bField_packWord (op : BitVec 3) (f : Bool) (a b : Byte) : bField (packWord op f a b) = b := by
  ext k hk
  simp only [bField, BitVec.getElem_extractLsb', packWord_getLsbD]
  split_ifs <;> first | omega | simp [hk]

@[simp] theorem rsv1Field_packWord (op : BitVec 3) (f : Bool) (a b : Byte) : rsv1Field (packWord op f a b) = 0 := by
  ext k hk
  simp only [rsv1Field, BitVec.getElem_extractLsb', packWord_getLsbD]
  split_ifs <;> first | omega | simp

@[simp] theorem encode_payload (i : Instr) : (encode i).payload = i.payloadBytes := rfl

@[simp] theorem encode_word (i : Instr) :
    (encode i).word = packWord i.opcode i.forceBit i.operandA i.operandB := rfl

end Sys2Proof
end

