-- ==== Sys2Proof/Laws/State.lean ====
section
/-! SUPPORT. What each shared update does to each field of State, one lemma per field per update, for simp. -/

namespace Sys2Proof.Machine

@[simp] theorem State.record_seq (e : Event) (s : State) : (s.record e).seq = s.seq := rfl
@[simp] theorem State.record_busy (e : Event) (s : State) : (s.record e).busy = s.busy := rfl
@[simp] theorem State.record_done (e : Event) (s : State) : (s.record e).done = s.done := rfl
@[simp] theorem State.record_fault (e : Event) (s : State) : (s.record e).fault = s.fault := rfl
@[simp] theorem State.record_op (e : Event) (s : State) : (s.record e).op = s.op := rfl
@[simp] theorem State.record_force (e : Event) (s : State) : (s.record e).force = s.force := rfl
@[simp] theorem State.record_a (e : Event) (s : State) : (s.record e).a = s.a := rfl
@[simp] theorem State.record_b (e : Event) (s : State) : (s.record e).b = s.b := rfl
@[simp] theorem State.record_wbuf (e : Event) (s : State) : (s.record e).wbuf = s.wbuf := rfl
@[simp] theorem State.record_initCtr (e : Event) (s : State) : (s.record e).initCtr = s.initCtr := rfl
@[simp] theorem State.record_priorCtr (e : Event) (s : State) : (s.record e).priorCtr = s.priorCtr := rfl
@[simp] theorem State.record_retry (e : Event) (s : State) : (s.record e).retry = s.retry := rfl
@[simp] theorem State.record_oidx (e : Event) (s : State) : (s.record e).oidx = s.oidx := rfl
@[simp] theorem State.record_obuf (e : Event) (s : State) : (s.record e).obuf = s.obuf := rfl
@[simp] theorem State.record_res (e : Event) (s : State) : (s.record e).res = s.res := rfl
@[simp] theorem State.record_ir (e : Event) (s : State) : (s.record e).ir = s.ir := rfl
@[simp] theorem State.record_vis (e : Event) (s : State) : (s.record e).vis = s.vis := rfl
@[simp] theorem State.record_cfg (e : Event) (s : State) : (s.record e).cfg = s.cfg := rfl
@[simp] theorem State.record_trace (e : Event) (s : State) : (s.record e).trace = s.trace ++ [e] := rfl
@[simp] theorem State.record_host (e : Event) (s : State) : (s.record e).host = s.host := rfl
@[simp] theorem State.record_answers (e : Event) (s : State) : (s.record e).answers = s.answers := rfl
@[simp] theorem State.record_draws (e : Event) (s : State) : (s.record e).draws = s.draws := rfl

@[simp] theorem State.busWrite_seq (bytes : List Byte) (s : State) : (s.busWrite bytes).seq = s.seq := rfl
@[simp] theorem State.busWrite_busy (bytes : List Byte) (s : State) : (s.busWrite bytes).busy = s.busy := rfl
@[simp] theorem State.busWrite_done (bytes : List Byte) (s : State) : (s.busWrite bytes).done = s.done := rfl
@[simp] theorem State.busWrite_fault (bytes : List Byte) (s : State) : (s.busWrite bytes).fault = s.fault := rfl
@[simp] theorem State.busWrite_op (bytes : List Byte) (s : State) : (s.busWrite bytes).op = s.op := rfl
@[simp] theorem State.busWrite_force (bytes : List Byte) (s : State) : (s.busWrite bytes).force = s.force := rfl
@[simp] theorem State.busWrite_a (bytes : List Byte) (s : State) : (s.busWrite bytes).a = s.a := rfl
@[simp] theorem State.busWrite_b (bytes : List Byte) (s : State) : (s.busWrite bytes).b = s.b := rfl
@[simp] theorem State.busWrite_wbuf (bytes : List Byte) (s : State) : (s.busWrite bytes).wbuf = s.wbuf := rfl
@[simp] theorem State.busWrite_initCtr (bytes : List Byte) (s : State) : (s.busWrite bytes).initCtr = s.initCtr := rfl
@[simp] theorem State.busWrite_priorCtr (bytes : List Byte) (s : State) : (s.busWrite bytes).priorCtr = s.priorCtr := rfl
@[simp] theorem State.busWrite_retry (bytes : List Byte) (s : State) : (s.busWrite bytes).retry = s.retry := rfl
@[simp] theorem State.busWrite_oidx (bytes : List Byte) (s : State) : (s.busWrite bytes).oidx = s.oidx := rfl
@[simp] theorem State.busWrite_obuf (bytes : List Byte) (s : State) : (s.busWrite bytes).obuf = s.obuf := rfl
@[simp] theorem State.busWrite_res (bytes : List Byte) (s : State) : (s.busWrite bytes).res = s.res := rfl
@[simp] theorem State.busWrite_ir (bytes : List Byte) (s : State) : (s.busWrite bytes).ir = s.ir := rfl
@[simp] theorem State.busWrite_vis (bytes : List Byte) (s : State) : (s.busWrite bytes).vis = s.vis := rfl
@[simp] theorem State.busWrite_cfg (bytes : List Byte) (s : State) : (s.busWrite bytes).cfg = s.cfg := rfl
@[simp] theorem State.busWrite_trace (bytes : List Byte) (s : State) : (s.busWrite bytes).trace = s.trace ++ [.write bytes] := rfl
@[simp] theorem State.busWrite_host (bytes : List Byte) (s : State) : (s.busWrite bytes).host = s.host := rfl
@[simp] theorem State.busWrite_answers (bytes : List Byte) (s : State) : (s.busWrite bytes).answers = s.answers := rfl
@[simp] theorem State.busWrite_draws (bytes : List Byte) (s : State) : (s.busWrite bytes).draws = s.draws := rfl

@[simp] theorem State.answered_seq (s : State) : (s.answered).seq = s.seq := by
  unfold State.answered; split <;> simp [*]
@[simp] theorem State.answered_busy (s : State) : (s.answered).busy = s.busy := by
  unfold State.answered; split <;> simp [*]
@[simp] theorem State.answered_done (s : State) : (s.answered).done = s.done := by
  unfold State.answered; split <;> simp [*]
@[simp] theorem State.answered_fault (s : State) : (s.answered).fault = s.fault := by
  unfold State.answered; split <;> simp [*]
@[simp] theorem State.answered_op (s : State) : (s.answered).op = s.op := by
  unfold State.answered; split <;> simp [*]
@[simp] theorem State.answered_force (s : State) : (s.answered).force = s.force := by
  unfold State.answered; split <;> simp [*]
@[simp] theorem State.answered_a (s : State) : (s.answered).a = s.a := by
  unfold State.answered; split <;> simp [*]
@[simp] theorem State.answered_b (s : State) : (s.answered).b = s.b := by
  unfold State.answered; split <;> simp [*]
@[simp] theorem State.answered_wbuf (s : State) : (s.answered).wbuf = s.wbuf := by
  unfold State.answered; split <;> simp [*]
@[simp] theorem State.answered_initCtr (s : State) : (s.answered).initCtr = s.initCtr := by
  unfold State.answered; split <;> simp [*]
@[simp] theorem State.answered_priorCtr (s : State) : (s.answered).priorCtr = s.priorCtr := by
  unfold State.answered; split <;> simp [*]
@[simp] theorem State.answered_retry (s : State) : (s.answered).retry = s.retry := by
  unfold State.answered; split <;> simp [*]
@[simp] theorem State.answered_oidx (s : State) : (s.answered).oidx = s.oidx := by
  unfold State.answered; split <;> simp [*]
@[simp] theorem State.answered_obuf (s : State) : (s.answered).obuf = s.obuf := by
  unfold State.answered; split <;> simp [*]
@[simp] theorem State.answered_res (s : State) : (s.answered).res = s.res := by
  unfold State.answered; split <;> simp [*]
@[simp] theorem State.answered_ir (s : State) : (s.answered).ir = s.ir := by
  unfold State.answered; split <;> simp [*]
@[simp] theorem State.answered_vis (s : State) : (s.answered).vis = s.vis := by
  unfold State.answered; split <;> simp [*]
@[simp] theorem State.answered_cfg (s : State) : (s.answered).cfg = s.cfg := by
  unfold State.answered; split <;> simp [*]
@[simp] theorem State.answered_trace (s : State) : (s.answered).trace = s.trace := by
  unfold State.answered; split <;> simp [*]
@[simp] theorem State.answered_host (s : State) : (s.answered).host = s.host := by
  unfold State.answered; split <;> simp [*]
@[simp] theorem State.answered_answers (s : State) : (s.answered).answers = s.answers.tail := by
  unfold State.answered; split <;> simp [*]
@[simp] theorem State.answered_draws (s : State) : (s.answered).draws = if s.answers = [] then s.draws + 1 else s.draws := by
  unfold State.answered; split <;> simp [*]

@[simp] theorem State.busRead_seq (reg n : Byte) (s : State) : (s.busRead reg n).seq = s.seq := by
  simp [State.busRead]
@[simp] theorem State.busRead_busy (reg n : Byte) (s : State) : (s.busRead reg n).busy = s.busy := by
  simp [State.busRead]
@[simp] theorem State.busRead_done (reg n : Byte) (s : State) : (s.busRead reg n).done = s.done := by
  simp [State.busRead]
@[simp] theorem State.busRead_fault (reg n : Byte) (s : State) : (s.busRead reg n).fault = s.fault := by
  simp [State.busRead]
@[simp] theorem State.busRead_op (reg n : Byte) (s : State) : (s.busRead reg n).op = s.op := by
  simp [State.busRead]
@[simp] theorem State.busRead_force (reg n : Byte) (s : State) : (s.busRead reg n).force = s.force := by
  simp [State.busRead]
@[simp] theorem State.busRead_a (reg n : Byte) (s : State) : (s.busRead reg n).a = s.a := by
  simp [State.busRead]
@[simp] theorem State.busRead_b (reg n : Byte) (s : State) : (s.busRead reg n).b = s.b := by
  simp [State.busRead]
@[simp] theorem State.busRead_wbuf (reg n : Byte) (s : State) : (s.busRead reg n).wbuf = s.wbuf := by
  simp [State.busRead]
@[simp] theorem State.busRead_initCtr (reg n : Byte) (s : State) : (s.busRead reg n).initCtr = s.initCtr := by
  simp [State.busRead]
@[simp] theorem State.busRead_priorCtr (reg n : Byte) (s : State) : (s.busRead reg n).priorCtr = s.priorCtr := by
  simp [State.busRead]
@[simp] theorem State.busRead_retry (reg n : Byte) (s : State) : (s.busRead reg n).retry = s.retry := by
  simp [State.busRead]
@[simp] theorem State.busRead_oidx (reg n : Byte) (s : State) : (s.busRead reg n).oidx = s.oidx := by
  simp [State.busRead]
@[simp] theorem State.busRead_obuf (reg n : Byte) (s : State) : (s.busRead reg n).obuf = s.obuf := by
  simp [State.busRead]
@[simp] theorem State.busRead_res (reg n : Byte) (s : State) : (s.busRead reg n).res = s.res := by
  simp [State.busRead]
@[simp] theorem State.busRead_ir (reg n : Byte) (s : State) : (s.busRead reg n).ir = s.ir := by
  simp [State.busRead]
@[simp] theorem State.busRead_vis (reg n : Byte) (s : State) : (s.busRead reg n).vis = s.vis := by
  simp [State.busRead]
@[simp] theorem State.busRead_cfg (reg n : Byte) (s : State) : (s.busRead reg n).cfg = s.cfg := by
  simp [State.busRead]
@[simp] theorem State.busRead_trace (reg n : Byte) (s : State) : (s.busRead reg n).trace = s.trace ++ [.read reg n s.answer] := by
  simp [State.busRead]
@[simp] theorem State.busRead_host (reg n : Byte) (s : State) : (s.busRead reg n).host = s.host := by
  simp [State.busRead]
@[simp] theorem State.busRead_answers (reg n : Byte) (s : State) : (s.busRead reg n).answers = s.answers.tail := by
  simp [State.busRead]
@[simp] theorem State.busRead_draws (reg n : Byte) (s : State) : (s.busRead reg n).draws = if s.answers = [] then s.draws + 1 else s.draws := by
  simp [State.busRead]

@[simp] theorem State.finish_seq (s : State) : (s.finish).seq = .idle := rfl
@[simp] theorem State.finish_busy (s : State) : (s.finish).busy = false := rfl
@[simp] theorem State.finish_done (s : State) : (s.finish).done = true := rfl
@[simp] theorem State.finish_fault (s : State) : (s.finish).fault = s.fault := rfl
@[simp] theorem State.finish_op (s : State) : (s.finish).op = s.op := rfl
@[simp] theorem State.finish_force (s : State) : (s.finish).force = s.force := rfl
@[simp] theorem State.finish_a (s : State) : (s.finish).a = s.a := rfl
@[simp] theorem State.finish_b (s : State) : (s.finish).b = s.b := rfl
@[simp] theorem State.finish_wbuf (s : State) : (s.finish).wbuf = s.wbuf := rfl
@[simp] theorem State.finish_initCtr (s : State) : (s.finish).initCtr = s.initCtr := rfl
@[simp] theorem State.finish_priorCtr (s : State) : (s.finish).priorCtr = s.priorCtr := rfl
@[simp] theorem State.finish_retry (s : State) : (s.finish).retry = s.retry := rfl
@[simp] theorem State.finish_oidx (s : State) : (s.finish).oidx = s.oidx := rfl
@[simp] theorem State.finish_obuf (s : State) : (s.finish).obuf = s.obuf := rfl
@[simp] theorem State.finish_res (s : State) : (s.finish).res = s.res := rfl
@[simp] theorem State.finish_ir (s : State) : (s.finish).ir = s.ir := rfl
@[simp] theorem State.finish_vis (s : State) : (s.finish).vis = s.vis := rfl
@[simp] theorem State.finish_cfg (s : State) : (s.finish).cfg = s.cfg := rfl
@[simp] theorem State.finish_trace (s : State) : (s.finish).trace = s.trace := rfl
@[simp] theorem State.finish_host (s : State) : (s.finish).host = s.host := rfl
@[simp] theorem State.finish_answers (s : State) : (s.finish).answers = s.answers := rfl
@[simp] theorem State.finish_draws (s : State) : (s.finish).draws = s.draws := rfl

@[simp] theorem State.finishWith_seq (v : Word16) (s : State) : (s.finishWith v).seq = .idle := rfl
@[simp] theorem State.finishWith_busy (v : Word16) (s : State) : (s.finishWith v).busy = false := rfl
@[simp] theorem State.finishWith_done (v : Word16) (s : State) : (s.finishWith v).done = true := rfl
@[simp] theorem State.finishWith_fault (v : Word16) (s : State) : (s.finishWith v).fault = s.fault := rfl
@[simp] theorem State.finishWith_op (v : Word16) (s : State) : (s.finishWith v).op = s.op := rfl
@[simp] theorem State.finishWith_force (v : Word16) (s : State) : (s.finishWith v).force = s.force := rfl
@[simp] theorem State.finishWith_a (v : Word16) (s : State) : (s.finishWith v).a = s.a := rfl
@[simp] theorem State.finishWith_b (v : Word16) (s : State) : (s.finishWith v).b = s.b := rfl
@[simp] theorem State.finishWith_wbuf (v : Word16) (s : State) : (s.finishWith v).wbuf = s.wbuf := rfl
@[simp] theorem State.finishWith_initCtr (v : Word16) (s : State) : (s.finishWith v).initCtr = s.initCtr := rfl
@[simp] theorem State.finishWith_priorCtr (v : Word16) (s : State) : (s.finishWith v).priorCtr = s.priorCtr := rfl
@[simp] theorem State.finishWith_retry (v : Word16) (s : State) : (s.finishWith v).retry = s.retry := rfl
@[simp] theorem State.finishWith_oidx (v : Word16) (s : State) : (s.finishWith v).oidx = s.oidx := rfl
@[simp] theorem State.finishWith_obuf (v : Word16) (s : State) : (s.finishWith v).obuf = s.obuf := rfl
@[simp] theorem State.finishWith_res (v : Word16) (s : State) : (s.finishWith v).res = v := rfl
@[simp] theorem State.finishWith_ir (v : Word16) (s : State) : (s.finishWith v).ir = s.ir := rfl
@[simp] theorem State.finishWith_vis (v : Word16) (s : State) : (s.finishWith v).vis = s.vis := rfl
@[simp] theorem State.finishWith_cfg (v : Word16) (s : State) : (s.finishWith v).cfg = s.cfg := rfl
@[simp] theorem State.finishWith_trace (v : Word16) (s : State) : (s.finishWith v).trace = s.trace := rfl
@[simp] theorem State.finishWith_host (v : Word16) (s : State) : (s.finishWith v).host = s.host := rfl
@[simp] theorem State.finishWith_answers (v : Word16) (s : State) : (s.finishWith v).answers = s.answers := rfl
@[simp] theorem State.finishWith_draws (v : Word16) (s : State) : (s.finishWith v).draws = s.draws := rfl

@[simp] theorem State.accept_seq (i : Instr) (s : State) : (s.accept i).seq = s.seq := rfl
@[simp] theorem State.accept_busy (i : Instr) (s : State) : (s.accept i).busy = true := rfl
@[simp] theorem State.accept_done (i : Instr) (s : State) : (s.accept i).done = false := rfl
@[simp] theorem State.accept_fault (i : Instr) (s : State) : (s.accept i).fault = s.fault := rfl
@[simp] theorem State.accept_op (i : Instr) (s : State) : (s.accept i).op = i.opcode := rfl
@[simp] theorem State.accept_force (i : Instr) (s : State) : (s.accept i).force = i.forceBit := rfl
@[simp] theorem State.accept_a (i : Instr) (s : State) : (s.accept i).a = i.operandA := rfl
@[simp] theorem State.accept_b (i : Instr) (s : State) : (s.accept i).b = i.operandB := rfl
@[simp] theorem State.accept_wbuf (i : Instr) (s : State) : (s.accept i).wbuf = s.wbuf := rfl
@[simp] theorem State.accept_initCtr (i : Instr) (s : State) : (s.accept i).initCtr = s.initCtr := rfl
@[simp] theorem State.accept_priorCtr (i : Instr) (s : State) : (s.accept i).priorCtr = s.priorCtr := rfl
@[simp] theorem State.accept_retry (i : Instr) (s : State) : (s.accept i).retry = s.retry := rfl
@[simp] theorem State.accept_oidx (i : Instr) (s : State) : (s.accept i).oidx = s.oidx := rfl
@[simp] theorem State.accept_obuf (i : Instr) (s : State) : (s.accept i).obuf = s.obuf := rfl
@[simp] theorem State.accept_res (i : Instr) (s : State) : (s.accept i).res = s.res := rfl
@[simp] theorem State.accept_ir (i : Instr) (s : State) : (s.accept i).ir = s.ir := rfl
@[simp] theorem State.accept_vis (i : Instr) (s : State) : (s.accept i).vis = s.vis := rfl
@[simp] theorem State.accept_cfg (i : Instr) (s : State) : (s.accept i).cfg = s.cfg := rfl
@[simp] theorem State.accept_trace (i : Instr) (s : State) : (s.accept i).trace = s.trace := rfl
@[simp] theorem State.accept_host (i : Instr) (s : State) : (s.accept i).host = s.host := rfl
@[simp] theorem State.accept_answers (i : Instr) (s : State) : (s.accept i).answers = s.answers := rfl
@[simp] theorem State.accept_draws (i : Instr) (s : State) : (s.accept i).draws = s.draws := rfl

@[simp] theorem State.raise_seq (f : EngineFault) (s : State) : (s.raise f).seq = if f = .startWhileBusy then s.seq else .idle := by
  cases f <;> rfl
@[simp] theorem State.raise_busy (f : EngineFault) (s : State) : (s.raise f).busy = (decide (f = .startWhileBusy) && s.busy) := by
  cases f <;> rfl
@[simp] theorem State.raise_done (f : EngineFault) (s : State) : (s.raise f).done = (decide (f ≠ .startWhileBusy) || s.done) := by
  cases f <;> rfl
@[simp] theorem State.raise_fault (f : EngineFault) (s : State) : (s.raise f).fault = s.fault ||| faultMask f := by
  cases f <;> rfl
@[simp] theorem State.raise_op (f : EngineFault) (s : State) : (s.raise f).op = s.op := by
  cases f <;> rfl
@[simp] theorem State.raise_force (f : EngineFault) (s : State) : (s.raise f).force = s.force := by
  cases f <;> rfl
@[simp] theorem State.raise_a (f : EngineFault) (s : State) : (s.raise f).a = s.a := by
  cases f <;> rfl
@[simp] theorem State.raise_b (f : EngineFault) (s : State) : (s.raise f).b = s.b := by
  cases f <;> rfl
@[simp] theorem State.raise_wbuf (f : EngineFault) (s : State) : (s.raise f).wbuf = s.wbuf := by
  cases f <;> rfl
@[simp] theorem State.raise_initCtr (f : EngineFault) (s : State) : (s.raise f).initCtr = s.initCtr := by
  cases f <;> rfl
@[simp] theorem State.raise_priorCtr (f : EngineFault) (s : State) : (s.raise f).priorCtr = s.priorCtr := by
  cases f <;> rfl
@[simp] theorem State.raise_retry (f : EngineFault) (s : State) : (s.raise f).retry = s.retry := by
  cases f <;> rfl
@[simp] theorem State.raise_oidx (f : EngineFault) (s : State) : (s.raise f).oidx = s.oidx := by
  cases f <;> rfl
@[simp] theorem State.raise_obuf (f : EngineFault) (s : State) : (s.raise f).obuf = s.obuf := by
  cases f <;> rfl
@[simp] theorem State.raise_res (f : EngineFault) (s : State) : (s.raise f).res = s.res := by
  cases f <;> rfl
@[simp] theorem State.raise_ir (f : EngineFault) (s : State) : (s.raise f).ir = s.ir := by
  cases f <;> rfl
@[simp] theorem State.raise_vis (f : EngineFault) (s : State) : (s.raise f).vis = s.vis := by
  cases f <;> rfl
@[simp] theorem State.raise_cfg (f : EngineFault) (s : State) : (s.raise f).cfg = s.cfg := by
  cases f <;> rfl
@[simp] theorem State.raise_trace (f : EngineFault) (s : State) : (s.raise f).trace = s.trace := by
  cases f <;> rfl
@[simp] theorem State.raise_host (f : EngineFault) (s : State) : (s.raise f).host = s.host := by
  cases f <;> rfl
@[simp] theorem State.raise_answers (f : EngineFault) (s : State) : (s.raise f).answers = s.answers := by
  cases f <;> rfl
@[simp] theorem State.raise_draws (f : EngineFault) (s : State) : (s.raise f).draws = s.draws := by
  cases f <;> rfl

@[simp] theorem State.resetAction_seq (s : State) : (s.resetAction).seq = .idle := rfl
@[simp] theorem State.resetAction_busy (s : State) : (s.resetAction).busy = false := rfl
@[simp] theorem State.resetAction_done (s : State) : (s.resetAction).done = false := rfl
@[simp] theorem State.resetAction_fault (s : State) : (s.resetAction).fault = 0 := rfl
@[simp] theorem State.resetAction_op (s : State) : (s.resetAction).op = 0 := rfl
@[simp] theorem State.resetAction_force (s : State) : (s.resetAction).force = false := rfl
@[simp] theorem State.resetAction_a (s : State) : (s.resetAction).a = 0 := rfl
@[simp] theorem State.resetAction_b (s : State) : (s.resetAction).b = 0 := rfl
@[simp] theorem State.resetAction_wbuf (s : State) : (s.resetAction).wbuf = (List.range s.cfg.wdataMax).map fun k => Config.freeByte (s.draws + 7 + k) := rfl
@[simp] theorem State.resetAction_initCtr (s : State) : (s.resetAction).initCtr = 0 := rfl
@[simp] theorem State.resetAction_priorCtr (s : State) : (s.resetAction).priorCtr = 0 := rfl
@[simp] theorem State.resetAction_retry (s : State) : (s.resetAction).retry = 0 := rfl
@[simp] theorem State.resetAction_oidx (s : State) : (s.resetAction).oidx = 0 := rfl
@[simp] theorem State.resetAction_obuf (s : State) : (s.resetAction).obuf = Vector.ofFn fun k : Fin 4 => Config.freeAnswer (s.draws + 3 + k.val) := rfl
@[simp] theorem State.resetAction_res (s : State) : (s.resetAction).res = Config.freeWord s.draws := rfl
@[simp] theorem State.resetAction_ir (s : State) : (s.resetAction).ir = Config.freeWord (s.draws + 1) := rfl
@[simp] theorem State.resetAction_vis (s : State) : (s.resetAction).vis = Config.freeWord (s.draws + 2) := rfl
@[simp] theorem State.resetAction_cfg (s : State) : (s.resetAction).cfg = s.cfg := rfl
@[simp] theorem State.resetAction_trace (s : State) : (s.resetAction).trace = s.trace := rfl
@[simp] theorem State.resetAction_host (s : State) : (s.resetAction).host = s.host := rfl
@[simp] theorem State.resetAction_answers (s : State) : (s.resetAction).answers = s.answers := rfl
@[simp] theorem State.resetAction_draws (s : State) : (s.resetAction).draws = s.draws + 7 + s.cfg.wdataMax := rfl

end Sys2Proof.Machine
end

