-- ==== Sys2Proof/Laws/Ops.lean ====
section
/-! SUPPORT. One lemma for each shared operation, saying everything it can do. -/

namespace Sys2Proof.Machine

/-- The next answer and the state after it, from a script that holds one. -/
theorem State.answer_cons {s : State} {r : Answer} {rest : List Answer} (h : s.answers = r :: rest) :
    s.answer = r ∧ s.answered = { s with answers := rest } := by
  simp [State.answer, State.answered, h]

/-- The next answer and the state after it, from an empty script: a free answer. -/
theorem State.answer_nil {s : State} (h : s.answers = []) :
    s.answer = Config.freeAnswer s.draws ∧ s.answered = { s with draws := s.draws + 1 } := by
  simp [State.answer, State.answered, h]

theorem decodeStatus_byte (cfg : Config) (v : Byte) : decodeStatus cfg (.byte v) = some (statusFields cfg v) := rfl

/-- The decoder fails on NODATA in FAULT mode, and nowhere else (spec/30_encoding.md R107). -/
theorem decodeStatus_eq_none {cfg : Config} {r : Answer} :
    decodeStatus cfg r = none ↔ r = .nodata ∧ cfg.nodataStatusMode = .fault := by
  cases r <;> cases h : cfg.nodataStatusMode <;> simp [decodeStatus, h]

/-- MAX_RETRIES fits RETRY (spec/00_scope.md R8). -/
theorem maxRetries_lt (cfg : Config) : cfg.maxRetries < 2 ^ cfg.retryW :=
  Nat.lt_of_succ_le <| (Nat.le_pow_clog Nat.one_lt_two _).trans
    (Nat.pow_le_pow_right Nat.two_pos (Nat.le_max_right 1 _))

/-- A poll leaves a value of RETRY_W bits in RETRY (spec/60_exceptions.md R290). -/
theorem countPoll_lt (cfg : Config) (retry : Nat) : countPoll cfg retry < 2 ^ cfg.retryW :=
  Nat.mod_lt _ (Nat.two_pow_pos _)

/-- Below MAX_RETRIES a poll adds 1 to RETRY: it does not wrap (spec/10_state.md R39). -/
theorem countPoll_of_lt {cfg : Config} {retry : Nat} (h : retry < cfg.maxRetries) : countPoll cfg retry = retry + 1 :=
  Nat.mod_eq_of_lt (Nat.lt_of_le_of_lt h (maxRetries_lt cfg))

/-- A status read either runs the rest of its step on the decoded fields, or raises STATUS_NODATA. -/
theorem State.readStatus_cases (next : Counter → Bool → State → State) (s : State) :
    (∃ c e, decodeStatus s.cfg s.answer = some (c, e) ∧ s.readStatus next = next c e (s.busRead s.cfg.regStatus 1)) ∨
    (decodeStatus s.cfg s.answer = none ∧
      s.readStatus next = (s.busRead s.cfg.regStatus 1).raise .statusNodata) := by
  cases h : decodeStatus s.cfg s.answer with
  | none => exact .inr ⟨rfl, by simp [State.readStatus, h]⟩
  | some p => exact .inl ⟨p.1, p.2, rfl, by simp [State.readStatus, h]⟩

/-- A request is accepted, or raises ILLEGAL_REQUEST (spec/60_exceptions.md R288). -/
theorem State.request_cases (i : Instr) (begin : State → State) (s : State) :
    (legal s.cfg i = true ∧ s.request i begin = begin (s.accept i)) ∨
    (legal s.cfg i = false ∧ s.request i begin = { s with done := false }.raise .illegalRequest) := by
  cases h : legal s.cfg i
  · exact .inr ⟨rfl, by simp [State.request, h]⟩
  · exact .inl ⟨rfl, by simp [State.request, h]⟩

/-- An operation is requested, or makes its engine step, or is a Start while BUSY. -/
theorem State.operate_cases (i : Instr) (begin : State → State) (own : Option State) (s : State) :
    (s.busy = false ∧ s.operate i begin own = s.request i begin) ∨
    (s.busy = true ∧ s.holds i = true ∧ ∃ t, own = some t ∧ s.operate i begin own = t) ∨
    (s.busy = true ∧ (s.holds i = false ∨ own = none) ∧ s.operate i begin own = s.raise .startWhileBusy) := by
  cases hb : s.busy
  · exact .inl ⟨rfl, by simp [State.operate, hb]⟩
  · cases hh : s.holds i
    · exact .inr (.inr ⟨rfl, .inl rfl, by simp [State.operate, hb, hh]⟩)
    · cases ho : own with
      | none => exact .inr (.inr ⟨rfl, .inr rfl, by simp [State.operate, hb, hh]⟩)
      | some t => exact .inr (.inl ⟨rfl, rfl, t, rfl, by simp [State.operate, hb, hh]⟩)

end Sys2Proof.Machine
end

