-- ==== Sys2Proof/Laws/Engine.lean ====
section
/-! SUPPORT. Everything an engine step can do: one inversion lemma for each sequencer state's step, and one for
`engineStep`, built from them. -/

namespace Sys2Proof.Machine

/-- The state after a status read of `s` (spec/30_encoding.md R107). -/
abbrev State.statusRead (s : State) : State := s.busRead s.cfg.regStatus 1

/-- Step SC_INIT (spec/41_command_engine.md R173). -/
theorem State.scInit_cases (s : State) :
    (decodeStatus s.cfg s.answer = none ∧ s.scInit = s.statusRead.raise .statusNodata) ∨
    (∃ c, decodeStatus s.cfg s.answer = some (c, true) ∧ s.force = false ∧
      s.scInit = { s.statusRead with initCtr := c }.finishWith (resultWord (.preheld c))) ∨
    (∃ c e, decodeStatus s.cfg s.answer = some (c, e) ∧ (e = false ∨ s.force = true) ∧
      s.scInit = { s.statusRead with initCtr := c, seq := .scCmd }) := by
  unfold State.scInit
  rcases State.readStatus_cases _ s with ⟨c, e, hd, he⟩ | ⟨hd, he⟩ <;> rw [he]
  · cases e <;> cases hf : s.force <;> simp [hd, hf]
  · exact .inl ⟨hd, rfl⟩

/-- Step SC_CMD (R174). -/
theorem State.scCmd_cases (s : State) :
    (s.cfg.maxRetries = 0 ∧
      s.scCmd = { s.busWrite (commandPacket s.cfg s.a) with retry := 0 }.finishWith (resultWord .timeout)) ∨
    (s.cfg.maxRetries ≠ 0 ∧ s.scCmd = { s.busWrite (commandPacket s.cfg s.a) with retry := 0, seq := .scPoll }) := by
  by_cases h : s.cfg.maxRetries = 0
  · exact .inl ⟨h, by simp [State.scCmd, h]⟩
  · exact .inr ⟨h, by simp [State.scCmd, h]⟩

/-- Step SC_POLL (R175). -/
theorem State.scPoll_cases (s : State) :
    (decodeStatus s.cfg s.answer = none ∧ s.scPoll = s.statusRead.raise .statusNodata) ∨
    (∃ c, decodeStatus s.cfg s.answer = some (c, true) ∧
      s.scPoll = { s.statusRead with retry := countPoll s.cfg s.retry }.finishWith (resultWord (.deviceError c))) ∨
    (∃ c, decodeStatus s.cfg s.answer = some (c, false) ∧ advanced s.initCtr c = true ∧
      s.scPoll = { s.statusRead with retry := countPoll s.cfg s.retry }.finishWith (resultWord .success)) ∨
    (∃ c, decodeStatus s.cfg s.answer = some (c, false) ∧ advanced s.initCtr c = false ∧
      countPoll s.cfg s.retry = s.cfg.maxRetries ∧
      s.scPoll = { s.statusRead with retry := countPoll s.cfg s.retry }.finishWith (resultWord .timeout)) ∨
    (∃ c, decodeStatus s.cfg s.answer = some (c, false) ∧ advanced s.initCtr c = false ∧
      countPoll s.cfg s.retry ≠ s.cfg.maxRetries ∧ s.scPoll = { s.statusRead with retry := countPoll s.cfg s.retry, seq := .scPoll }) := by
  unfold State.scPoll
  rcases State.readStatus_cases _ s with ⟨c, e, hd, he⟩ | ⟨hd, he⟩ <;> rw [he]
  · cases e
    · cases ha : advanced s.initCtr c
      · by_cases hm : countPoll s.cfg s.retry = s.cfg.maxRetries <;> simp [hd, ha, hm]
      · simp [hd, ha]
    · simp [hd]
  · exact .inl ⟨hd, rfl⟩

/-- Step P_BASE (spec/42_param_access.md R221). -/
theorem State.pBase_cases (s : State) :
    (decodeStatus s.cfg s.answer = none ∧ s.pBase = s.statusRead.raise .statusNodata) ∨
    (∃ c e, decodeStatus s.cfg s.answer = some (c, e) ∧
      s.pBase = { s.statusRead with priorCtr := c, seq := if s.op = opPset then .pHostin else .pCmd }) := by
  unfold State.pBase
  rcases State.readStatus_cases _ s with ⟨c, e, hd, he⟩ | ⟨hd, he⟩ <;> rw [he]
  · exact .inr ⟨c, e, hd, by simp⟩
  · exact .inl ⟨hd, rfl⟩

/-- Step P_POLL (R224). -/
theorem State.pPoll_cases (s : State) :
    (decodeStatus s.cfg s.answer = none ∧ s.pPoll = s.statusRead.raise .statusNodata) ∨
    (∃ c e, decodeStatus s.cfg s.answer = some (c, e) ∧ s.priorCtr.toNat < c.toNat ∧
      s.pPoll = { s.statusRead with
        priorCtr := if s.cfg.paramBaseline = .previousPoll then c else s.priorCtr, seq := .pPoll }) ∨
    (∃ c e, decodeStatus s.cfg s.answer = some (c, e) ∧ c.toNat ≤ s.priorCtr.toNat ∧ s.op = opPset ∧
      s.pPoll = s.statusRead.finish) ∨
    (∃ c e, decodeStatus s.cfg s.answer = some (c, e) ∧ c.toNat ≤ s.priorCtr.toNat ∧ s.op ≠ opPset ∧
      s.pPoll = { s.statusRead with seq := .pRead }) := by
  unfold State.pPoll
  rcases State.readStatus_cases _ s with ⟨c, e, hd, he⟩ | ⟨hd, he⟩ <;> rw [he]
  · simp only [gt_iff_lt, State.busRead_priorCtr, State.busRead_op, State.busRead_cfg]
    by_cases hc : s.priorCtr.toNat < c.toNat
    · refine .inr (.inl ⟨c, e, hd, hc, ?_⟩)
      cases hm : s.cfg.paramBaseline <;> simp [hc]
    · have hle : c.toNat ≤ s.priorCtr.toNat := by omega
      by_cases ho : s.op = opPset
      · exact .inr (.inr (.inl ⟨c, e, hd, hle, ho, by rw [if_neg hc, if_pos ho]⟩))
      · exact .inr (.inr (.inr ⟨c, e, hd, hle, ho, by rw [if_neg hc, if_neg ho]⟩))
  · exact .inl ⟨hd, rfl⟩

/-- The state after RO_READ's read, before it ends or goes on (spec/43_output_reading.md R261). -/
abbrev State.outputRead (s : State) : State :=
  { s.busRead (outRegister s.cfg s.oidx) 1 with obuf := s.obuf.set s.oidx s.answer }

/-- The end of RDOUT (R262, R263). -/
theorem State.roEnd_cases (s : State) :
    (∃ ir vis, channelWord s.obuf[0] s.obuf[1] = some ir ∧ channelWord s.obuf[2] s.obuf[3] = some vis ∧
      s.roEnd = { s with ir := ir, vis := vis }.finishWith 0x0000#16) ∨
    ((channelWord s.obuf[0] s.obuf[1] = none ∨ channelWord s.obuf[2] s.obuf[3] = none) ∧
      ∃ ir vis draws, s.roEnd = { s with ir := ir, vis := vis, draws := draws }.finishWith 0xFFFF#16) := by
  unfold State.roEnd
  cases h1 : channelWord s.obuf[0] s.obuf[1] with
  | none => exact .inr ⟨.inl rfl, _, _, _, rfl⟩
  | some ir =>
    cases h2 : channelWord s.obuf[2] s.obuf[3] with
    | none => exact .inr ⟨.inr rfl, _, _, _, rfl⟩
    | some vis => exact .inl ⟨ir, vis, rfl, rfl, rfl⟩

/-- Step RO_READ (R261). -/
theorem State.roRead_cases (s : State) :
    (s.oidx < 3 ∧ s.roRead = { s.outputRead with oidx := s.oidx + 1, seq := .roRead }) ∨
    (s.oidx = 3 ∧ s.roRead = s.outputRead.roEnd) := by
  by_cases h : s.oidx < 3
  · exact .inl ⟨h, by rw [State.roRead, if_pos h]⟩
  · exact .inr ⟨by omega, by rw [State.roRead, if_neg h]⟩

/-- Which rule an engine step is (spec/10_state.md R32). -/
theorem State.engineStep_cases (s : State) :
    (s.seq = .idle ∧ s.engineStep = s) ∨
    (s.seq = .scInit ∧ s.engineStep = s.scInit) ∨
    (s.seq = .scCmd ∧ s.engineStep = s.scCmd) ∨
    (s.seq = .scPoll ∧ s.engineStep = s.scPoll) ∨
    (s.seq = .wdXfer ∧ s.engineStep = s.wdXfer) ∨
    (s.seq = .rrXfer ∧ s.engineStep = s.rrXfer) ∨
    (s.seq = .pBase ∧ s.engineStep = s.pBase) ∨
    (s.seq = .pHostin ∧ s.engineStep = s.pHostin) ∨
    (s.seq = .pCmd ∧ s.engineStep = s.pCmd) ∨
    (s.seq = .pPoll ∧ s.engineStep = s.pPoll) ∨
    (s.seq = .pRead ∧ s.engineStep = s.pRead) ∨
    (s.seq = .roRead ∧ s.engineStep = s.roRead) := by
  cases h : s.seq <;> simp [State.engineStep, h]

/-- An engine step without its case analysis: what holds of a state and each of the results the rules R173 to R175, R143,
R144, R221 to R225 and R261 to R263 give, holds of the state and its engine step. -/
theorem State.engineStep_elim (P : State → State → Prop) (s : State)
    (idle : s.seq = .idle → P s s)
    (nodata : (s.seq = .scInit ∨ s.seq = .scPoll ∨ s.seq = .pBase ∨ s.seq = .pPoll) →
      decodeStatus s.cfg s.answer = none → P s (s.statusRead.raise .statusNodata))
    (preheld : ∀ c, s.seq = .scInit → decodeStatus s.cfg s.answer = some (c, true) → s.force = false →
      P s ({ s.statusRead with initCtr := c }.finishWith (resultWord (.preheld c))))
    (initial : ∀ c e, s.seq = .scInit → decodeStatus s.cfg s.answer = some (c, e) → (e = false ∨ s.force = true) →
      P s { s.statusRead with initCtr := c, seq := .scCmd })
    (noPolls : s.seq = .scCmd → s.cfg.maxRetries = 0 →
      P s ({ s.busWrite (commandPacket s.cfg s.a) with retry := 0 }.finishWith (resultWord .timeout)))
    (command : s.seq = .scCmd → s.cfg.maxRetries ≠ 0 →
      P s { s.busWrite (commandPacket s.cfg s.a) with retry := 0, seq := .scPoll })
    (pollEnd : ∀ x, s.seq = .scPoll → P s ({ s.statusRead with retry := countPoll s.cfg s.retry }.finishWith (resultWord x)))
    (pollOn : s.seq = .scPoll → countPoll s.cfg s.retry ≠ s.cfg.maxRetries →
      P s { s.statusRead with retry := countPoll s.cfg s.retry, seq := .scPoll })
    (write : s.seq = .wdXfer → P s s.wdXfer) (read : s.seq = .rrXfer → P s s.rrXfer)
    (baseline : ∀ c, s.seq = .pBase →
      P s { s.statusRead with priorCtr := c, seq := if s.op = opPset then .pHostin else .pCmd })
    (hostin : s.seq = .pHostin → P s s.pHostin) (tagged : s.seq = .pCmd → P s s.pCmd)
    (paramOn : ∀ c, s.seq = .pPoll → P s { s.statusRead with priorCtr := c, seq := .pPoll })
    (paramEnd : s.seq = .pPoll → s.op = opPset → P s s.statusRead.finish)
    (paramGo : s.seq = .pPoll → s.op ≠ opPset → P s { s.statusRead with seq := .pRead })
    (value : s.seq = .pRead → P s s.pRead)
    (output : s.seq = .roRead → s.oidx < 3 → P s { s.outputRead with oidx := s.oidx + 1, seq := .roRead })
    (assembled : ∀ ir vis, s.seq = .roRead → s.oidx = 3 →
      P s ({ s.outputRead with ir := ir, vis := vis }.finishWith 0x0000#16))
    (failed : ∀ ir vis draws, s.seq = .roRead → s.oidx = 3 →
      P s ({ s.outputRead with ir := ir, vis := vis, draws := draws }.finishWith 0xFFFF#16)) :
    P s s.engineStep := by
  rcases s.engineStep_cases with ⟨q, e⟩ | ⟨q, e⟩ | ⟨q, e⟩ | ⟨q, e⟩ | ⟨q, e⟩ | ⟨q, e⟩ | ⟨q, e⟩ | ⟨q, e⟩ | ⟨q, e⟩ | ⟨q, e⟩ |
    ⟨q, e⟩ | ⟨q, e⟩ <;> rw [e]
  · exact idle q
  · rcases s.scInit_cases with ⟨d, e⟩ | ⟨c, d, f, e⟩ | ⟨c, b, d, f, e⟩ <;> rw [e]
    · exact nodata (by simp [q]) d
    · exact preheld c q d f
    · exact initial c b q d f
  · rcases s.scCmd_cases with ⟨d, e⟩ | ⟨d, e⟩ <;> rw [e]
    · exact noPolls q d
    · exact command q d
  · rcases s.scPoll_cases with ⟨d, e⟩ | ⟨c, _, e⟩ | ⟨c, _, _, e⟩ | ⟨c, _, _, _, e⟩ | ⟨c, _, _, m, e⟩ <;> rw [e]
    · exact nodata (by simp [q]) d
    · exact pollEnd _ q
    · exact pollEnd _ q
    · exact pollEnd _ q
    · exact pollOn q m
  · exact write q
  · exact read q
  · rcases s.pBase_cases with ⟨d, e⟩ | ⟨c, _, _, e⟩ <;> rw [e]
    · exact nodata (by simp [q]) d
    · exact baseline c q
  · exact hostin q
  · exact tagged q
  · rcases s.pPoll_cases with ⟨d, e⟩ | ⟨c, _, _, _, e⟩ | ⟨c, _, _, _, o, e⟩ | ⟨c, _, _, _, o, e⟩ <;> rw [e]
    · exact nodata (by simp [q]) d
    · exact paramOn _ q
    · exact paramEnd q o
    · exact paramGo q o
  · exact value q
  · rcases s.roRead_cases with ⟨d, e⟩ | ⟨d, e⟩ <;> rw [e]
    · exact output q d
    · rcases s.outputRead.roEnd_cases with ⟨ir, vis, _, _, e⟩ | ⟨_, ir, vis, draws, e⟩ <;> rw [e]
      · exact assembled ir vis q d
      · exact failed ir vis draws q d

end Sys2Proof.Machine
end

