-- ==== Sys2Proof/Laws/PerInstr.lean ====
section
/-! SUPPORT. A family of facts about instructions as syntax, one lemma per constructor. -/

namespace Sys2Proof.Laws

/-- The reserved fields of an instruction's request word are 0 and its OP is its operation code
(spec/30_encoding.md R100, R101). -/
def Fields.Statement (i : Instr) : Prop :=
  rsv0Field (encode i).word = 0 ∧ rsv1Field (encode i).word = 0 ∧ opField (encode i).word = i.opcode

theorem Fields.sendcmd (force : Bool) (code : Byte) : Fields.Statement (.sendcmd force code) := by
  simp [Fields.Statement]

theorem Fields.rdreg (reg count : Byte) : Fields.Statement (.rdreg reg count) := by
  simp [Fields.Statement]

theorem Fields.wrdata (payload : List Byte) : Fields.Statement (.wrdata payload) := by
  simp [Fields.Statement]

theorem Fields.rdout : Fields.Statement .rdout := by
  simp [Fields.Statement]

theorem Fields.pset (loc : BitVec 6) (value : Byte) : Fields.Statement (.pset loc value) := by
  simp [Fields.Statement]

theorem Fields.pquery (loc : BitVec 6) : Fields.Statement (.pquery loc) := by
  simp [Fields.Statement]

end Sys2Proof.Laws
end

