-- ==== Sys2Proof/Laws/Step.lean ====
section
/-! SUPPORT. What `exec` and `step` can do: one inversion lemma each. -/

namespace Sys2Proof.Machine

/-- The writes an accepted Start of an operation makes beyond its latches (spec/60_exceptions.md R288). -/
def beginState : Instr → State → State
  | .sendcmd _ _, t => { t with seq := .scInit }
  | .rdreg _ _, t => { t with seq := .rrXfer }
  | .wrdata payload, t => { t with wbuf := fillBuffer t.wbuf payload, seq := .wdXfer }
  | .rdout, t => { t with oidx := 0, seq := .roRead }
  | .pset _ _, t => { t with seq := .pBase }
  | .pquery _, t => { t with seq := .pBase }

/-- Every meaning is one use of `State.operate`: the operation's own states run the engine step of SEQ. -/
theorem exec_eq_operate (i : Instr) (s : State) :
    exec i s = .next (s.operate i (beginState i) (if ownState i s.seq then some s.engineStep else none)) := by
  cases i <;> simp only [exec, execSendcmd, execRdreg, execWrdata, execRdout, execPset, execPquery] <;>
    congr 2 <;> cases hq : s.seq <;> simp [ownState, State.engineStep, hq]

/-- Everything an operation can do next. -/
theorem exec_cases (i : Instr) (s : State) :
    (s.busy = false ∧ legal s.cfg i = true ∧ exec i s = .next (beginState i (s.accept i))) ∨
    (s.busy = false ∧ legal s.cfg i = false ∧ exec i s = .next ({ s with done := false }.raise .illegalRequest)) ∨
    (s.Running i ∧ exec i s = .next s.engineStep) ∨
    (s.busy = true ∧ ¬ s.Running i ∧ exec i s = .next (s.raise .startWhileBusy)) := by
  rw [exec_eq_operate]
  rcases s.operate_cases i (beginState i) (if ownState i s.seq then some s.engineStep else none) with
    ⟨hb, he⟩ | ⟨hb, hh, t, ho, he⟩ | ⟨hb, hn, he⟩ <;> rw [he]
  · rcases s.request_cases i (beginState i) with ⟨hl, hr⟩ | ⟨hl, hr⟩ <;> rw [hr]
    · exact .inl ⟨hb, hl, rfl⟩
    · exact .inr (.inl ⟨hb, hl, rfl⟩)
  · split at ho <;> simp_all [State.Running]
  · refine .inr (.inr (.inr ⟨hb, ?_, rfl⟩))
    rintro ⟨-, h1, h2⟩
    simp_all

/-- An operation in progress makes the engine step of SEQ. -/
theorem exec_of_running {i : Instr} {s : State} (h : s.Running i) : exec i s = .next s.engineStep := by
  obtain ⟨hb, hh, ho⟩ := h
  simp [exec_eq_operate, State.operate, hb, hh, ho]

/-- A legal operation requested while BUSY = 0 is accepted. -/
theorem exec_of_legal {i : Instr} {s : State} (hb : s.busy = false) (hl : legal s.cfg i = true) :
    exec i s = .next (beginState i (s.accept i)) := by
  simp [exec_eq_operate, State.operate, State.request, hb, hl]

/-- Any other requested while BUSY = 0 raises ILLEGAL_REQUEST. -/
theorem exec_of_illegal {i : Instr} {s : State} (hb : s.busy = false) (hl : legal s.cfg i = false) :
    exec i s = .next ({ s with done := false }.raise .illegalRequest) := by
  simp [exec_eq_operate, State.operate, State.request, hb, hl]

/-- Everything a step can do: an engine step, the reset action, or a Start: busy, undecodable, or run by `exec`. -/
theorem step_cases (s : State) :
    (∃ rest, (s.host = [] ∧ rest = [] ∨ s.host = .pass :: rest) ∧
      step s = .next (State.engineStep { s with host := rest })) ∨
    (∃ rest, s.host = .reset :: rest ∧ step s = .next (State.resetAction { s with host := rest })) ∨
    (∃ req rest, s.host = .start req :: rest ∧ s.busy = true ∧
      step s = .next (State.raise .startWhileBusy { s with host := rest })) ∨
    (∃ req rest r, s.host = .start req :: rest ∧ s.busy = false ∧ decode req = .error r ∧
      step s = .next (State.raise .illegalRequest { s with host := rest, done := false })) ∨
    (∃ req rest i, s.host = .start req :: rest ∧ s.busy = false ∧ decode req = .ok i ∧
      step s = exec i { s with host := rest }) := by
  rcases hh : s.host with _ | ⟨t, rest⟩
  · have same : ({ s with host := [] } : State) = s := by rw [← hh]
    exact .inl ⟨[], .inl ⟨rfl, rfl⟩, by rw [same]; simp [step, turn, hh]⟩
  · cases t with
    | pass => exact .inl ⟨rest, .inr rfl, by simp [step, turn, hh]⟩
    | reset => exact .inr (.inl ⟨rest, rfl, by simp [step, turn, hh]⟩)
    | start req =>
      cases hb : s.busy
      · cases hd : decode req with
        | error r =>
          exact .inr (.inr (.inr (.inl ⟨req, rest, r, rfl, rfl, hd, by simp [step, turn, hh, startAction, hb, hd]⟩)))
        | ok i =>
          exact .inr (.inr (.inr (.inr ⟨req, rest, i, rfl, rfl, hd, by simp [step, turn, hh, startAction, hb, hd]⟩)))
      · exact .inr (.inr (.inl ⟨req, rest, rfl, rfl, by simp [step, turn, hh, startAction, hb]⟩))

theorem run_succ {s t : State} (n : Nat) (h : step s = .next t) : run (n + 1) s = run n t := by
  simp [run, h]

theorem core_run_next (M : Host.Core) {s t : M.State} (n : Nat) (h : M.step s = .next t) :
    M.run (n + 1) s = M.run n t := by
  rw [Host.Core.run, h]

theorem core_run_refused (M : Host.Core) {s : M.State} {r : M.Refusal} (n : Nat) (h : M.step s = .refused r) :
    M.run (n + 1) s = .refused r := by
  rw [Host.Core.run, h]

/-- `run` is the host's own run of the machine. -/
theorem run_eq_core_run (n : Nat) (s : State) : run n s = Sys2Proof.core.run n s := by
  induction n generalizing s with
  | zero => rfl
  | succ n ih =>
    cases hs : step s with
    | next t => exact (run_succ n hs).trans ((ih t).trans (core_run_next Sys2Proof.core n hs).symm)
    | fault r => cases r
    | refused r =>
      exact (show run (n + 1) s = .refused r by rw [run, hs]).trans (core_run_refused Sys2Proof.core n hs).symm

end Sys2Proof.Machine
end

