-- ==== Sys2Proof/Tests/Slice0.lean ====
section
/-! SUPPORT. Tests: the well-formedness smoke test, words written out from spec/30_encoding.md, one step of each
operation against spec/95_test_vectors.md, and for every obligation with hypotheses a witness that meets them. -/

set_option maxRecDepth 4000

namespace Sys2Proof.Tests

open Sys2Proof.Machine

/-- The test configuration of spec/95_test_vectors.md. -/
def tc : Config where
  devAddr := 0x2A
  regCommand := 0x10
  regStatus := 0x11
  regRespval := 0x12
  regHostin := 0x13
  regOut0 := 0x20
  regOut1 := 0x21
  regOut2 := 0x22
  regOut3 := 0x23
  maxRetries := 10000
  errBit := .bit7
  nodataStatusMode := .allOnes
  paramBaseline := .previousPoll
  hasParamAccess := true
  wdataMax := 32

/-- `tc` where a status read with no data is a fault. -/
def tcFault : Config := { tc with nodataStatusMode := .fault }

/-- `tc` where the parameter poll keeps its first baseline. -/
def tcFixed : Config := { tc with paramBaseline := .fixedInitial }

/-- An idle engine of the given configuration. -/
def idle (cfg : Config) : State := { State.reset with cfg := cfg }

/-- The operation `i` in progress at the sequencer state `q`, the environment answering `answers`. -/
def running (cfg : Config) (i : Instr) (q : Seq) (answers : List Answer) : State :=
  { (idle cfg).accept i with wbuf := fillBuffer (idle cfg).wbuf i.payloadBytes, seq := q, answers := answers }

/-- An outcome is a next state with the property `p`. -/
def nextWith (p : State → Bool) (o : Out) : Bool :=
  match o with
  | .next t => p t
  | .fault _ => false
  | .refused _ => false

/-- The state of an outcome that is a next state. -/
def stateOf (o : Out) : State :=
  match o with
  | .next t => t
  | .fault _ => State.reset
  | .refused _ => State.reset

/-- The decoder's answer as an option. -/
def reads (w : BitVec 32) (payload : List Byte) : Option Instr := (decode ⟨w, payload⟩).toOption

/-- The check that a request fails. -/
def rejects (w : BitVec 32) (payload : List Byte) : Option Reject :=
  match decode ⟨w, payload⟩ with
  | .ok _ => none
  | .error r => some r

/-! ### Well-formedness -/

/-- Each check refuses an ill-formed term and admits the term beside it (R102, R103 C5). -/
theorem test_wellFormed_refuses :
    (Instr.rdreg 0x11 0).wellFormed = false ∧ (Instr.rdreg 0x11 1).wellFormed = true ∧
    (Instr.wrdata (List.replicate 256 0)).wellFormed = false ∧
    (Instr.wrdata (List.replicate 255 0)).wellFormed = true := by decide

/-- The checks that depend on the configuration (R103 C6, C8). -/
theorem test_permitted_refuses :
    permitted tc (.wrdata (List.replicate 33 0)) = false ∧ permitted tc (.wrdata (List.replicate 32 0)) = true ∧
    permitted { tc with hasParamAccess := false } (.pset 1 2) = false ∧
    permitted { tc with hasParamAccess := false } (.pquery 1) = false := by decide

/-! ### Decoding: each word written out from the fields of R100: RSV1, B, A, RSV0, F, OP -/

theorem test_decode_sendcmd : reads 0b00000000_00000000_10000001_0000_0_001#32 [] = some (.sendcmd false 0x81) := by decide

theorem test_decode_sendcmd_force : reads 0b00000000_00000000_00000001_0000_1_001#32 [] = some (.sendcmd true 0x01) := by
  decide

theorem test_decode_rdreg : reads 0b00000000_10000000_00010001_0000_0_010#32 [] = some (.rdreg 0x11 0x80) := by decide

theorem test_decode_wrdata :
    reads 0b00000000_00000010_00000000_0000_0_011#32 [0x0B, 0x01] = some (.wrdata [0x0B, 0x01]) := by decide

theorem test_decode_rdout : reads 0b00000000_00000000_00000000_0000_0_100#32 [] = some .rdout := by decide

theorem test_decode_pset : reads 0b00000000_00001111_00100001_0000_0_101#32 [] = some (.pset 0x21 0x0F) := by decide

theorem test_decode_pquery : reads 0b00000000_00000000_00100001_0000_0_110#32 [] = some (.pquery 0x21) := by decide

/-- Every check of R103 the decoder makes, by name. -/
theorem test_decode_rejects :
    rejects 0x00000000#32 [] = some .reservedOpcode ∧ rejects 0x00000007#32 [] = some .reservedOpcode ∧
    rejects 0x00000011#32 [] = some .reservedBits ∧ rejects 0x01000001#32 [] = some .reservedBits ∧
    rejects 0x0001110A#32 [] = some .forceBit ∧ rejects 0x00010101#32 [] = some .operandNotZero ∧
    rejects 0x00000104#32 [] = some .operandNotZero ∧ rejects 0x00001102#32 [] = some .zeroCount ∧
    rejects 0x00020003#32 [0x0B] = some .payloadLength ∧ rejects 0x000F4105#32 [] = some .locationRange ∧
    rejects 0x00008106#32 [] = some .locationRange ∧ rejects 0x00010106#32 [] = some .operandNotZero := by decide

/-- The row of spec/opcode_table.json for WRDATA, with a payload of as many bytes as its field B says. -/
theorem test_decodeTableWord_wrdata : decodeTableWord 32 0x00020003 = some (.wrdata [0, 0]) := by decide

/-- The four pseudo-instructions of R117, with REG_COMMAND = 0x10. -/
theorem test_assemble_pseudo :
    assembleLine tc "FORCECMD 0x01".toList = some [⟨0x00000109#32, []⟩] ∧
    assembleLine tc "RD 0x11".toList = some [⟨0x00011102#32, []⟩] ∧
    assembleLine tc "WRREG 0x0B, 0x01".toList = some [⟨0x00020003#32, [0x0B, 0x01]⟩] ∧
    assembleLine tc "CMDRAW 7 ; raw".toList = some [⟨0x00020003#32, [0x10, 0x07]⟩] := ⟨rfl, rfl, rfl, rfl⟩

/-! ### One step of each operation -/

/-- 95_test_vectors.md: initial status 0x03, then a poll answering 0x04: success. -/
theorem test_sendcmd_poll_success :
    nextWith (fun t => decide (t.res = 0x0000 ∧ t.done = true ∧ t.retry = 1))
      (exec (.sendcmd false 0x01)
        { running tc (.sendcmd false 0x01) .scPoll [.byte 0x04] with initCtr := 3 }) = true := by decide

/-- 00_scope.md R8: RETRY is 14 bits wide when MAX_RETRIES = 10000, and 1 bit when it is 0 or 1; 14 bits count mod 16384. -/
theorem test_retry_width :
    tc.retryW = 14 ∧ ({ tc with maxRetries := 0 } : Config).retryW = 1 ∧
    ({ tc with maxRetries := 1 } : Config).retryW = 1 ∧ ({ tc with maxRetries := 2 } : Config).retryW = 2 ∧
    countPoll tc 9999 = 10000 ∧ countPoll tc 16383 = 0 := by decide

/-- R173: error flag set at the initial read, counter 3: the result is -4, with no command written. -/
theorem test_sendcmd_preheld :
    nextWith (fun t => decide (t.res = 0xFFFC ∧ t.busy = false ∧ t.trace = [.read 0x11 1 (.byte 0x83)]))
      (exec (.sendcmd false 0x01) (running tc (.sendcmd false 0x01) .scInit [.byte 0x83])) = true := by decide

/-- R144: `RDREG 0x11, 1` with the answer 0x25 gives RES = 0x0025. -/
theorem test_rdreg_byte :
    nextWith (fun t => decide (t.res = 0x0025 ∧ t.trace = [.read 0x11 1 (.byte 0x25)]))
      (exec (.rdreg 0x11 1) (running tc (.rdreg 0x11 1) .rrXfer [.byte 0x25])) = true := by decide

/-- R144: with the answer NODATA it gives RES = 0xFFFF. -/
theorem test_rdreg_nodata :
    nextWith (fun t => decide (t.res = 0xFFFF ∧ t.fault = 0))
      (exec (.rdreg 0x11 1) (running tc (.rdreg 0x11 1) .rrXfer [.nodata])) = true := by decide

/-- R143: `WRDATA 0x0B, 0x01` records `W([0x0B, 0x01])`. -/
theorem test_wrdata_event :
    nextWith (fun t => decide (t.trace = [.write [0x0B, 0x01]] ∧ t.done = true))
      (exec (.wrdata [0x0B, 0x01]) (running tc (.wrdata [0x0B, 0x01]) .wdXfer [])) = true := by decide

/-- R262: `[0x01, 0x02, 0x00, 0x64]` assembles to IR = 258 and VIS = 100. -/
theorem test_rdout_assemble :
    nextWith (fun t => decide (t.ir.toNat = 258 ∧ t.vis.toNat = 100 ∧ t.res = 0))
      (exec .rdout { running tc .rdout .roRead [.byte 0x64] with
        oidx := 3, obuf := #v[.byte 0x01, .byte 0x02, .byte 0x00, .nodata] }) = true := by decide

/-- R226: `PSET 0x01, 0x0F` writes the command code 0x81. -/
theorem test_pset_command :
    nextWith (fun t => decide (t.trace = [.write [0x10, 0x81]] ∧ t.seq = .pPoll))
      (exec (.pset 0x01 0x0F) (running tc (.pset 0x01 0x0F) .pCmd [])) = true := by decide

/-- R224: PREVIOUS_POLL continues on 0x06 after the baseline 5, and 6 is the new baseline. -/
theorem test_pset_poll_continues :
    nextWith (fun t => decide (t.priorCtr = 6 ∧ t.seq = .pPoll ∧ t.busy = true))
      (exec (.pset 0x01 0x0F) { running tc (.pset 0x01 0x0F) .pPoll [.byte 0x06] with priorCtr := 5 }) = true := by decide

/-- R227: `PQUERY 0x01` writes the command code 0x41. -/
theorem test_pquery_command :
    nextWith (fun t => decide (t.trace = [.write [0x10, 0x41]] ∧ t.seq = .pPoll))
      (exec (.pquery 0x01) (running tc (.pquery 0x01) .pCmd [])) = true := by decide

/-- R227: the response 0x0F ends it with RES = 0x000F. -/
theorem test_pquery_value :
    nextWith (fun t => decide (t.res = 0x000F ∧ t.trace = [.read 0x12 1 (.byte 0x0F)]))
      (exec (.pquery 0x01) (running tc (.pquery 0x01) .pRead [.byte 0x0F])) = true := by decide

/-- Any table row runs as the first instruction after reset (log 10). -/
theorem test_withFetchWord_rdout :
    nextWith (fun t => decide (t.seq = .roRead ∧ t.busy = true)) (step (State.reset.withFetchWord 32 4)) = true := by decide

/-! ### Witnesses: for each obligation with hypotheses, a state and operands that meet them, clause by clause -/

/-- A request word with its payload as the host's next turn. -/
def starting (s : State) (w : BitVec 32) (payload : List Byte) : State := { s with host := [.start ⟨w, payload⟩] }

/-- SENDCMD 0x01 in progress. -/
def sendcmd (cfg : Config) (force : Bool) (q : Seq) (answers : List Answer) : State :=
  running cfg (.sendcmd force 0x01) q answers

/-- PSET 0x01, 0x0F in progress. -/
def pset (cfg : Config) (q : Seq) (prior : Counter) (answers : List Answer) : State :=
  { running cfg (.pset 0x01 0x0F) q answers with priorCtr := prior }

/-- PQUERY 0x01 in progress. -/
def pquery (cfg : Config) (q : Seq) (prior : Counter) (answers : List Answer) : State :=
  { running cfg (.pquery 0x01) q answers with priorCtr := prior }

/-- The last read of RDOUT, the first three answers being 0x01, 0x02 and `r`. -/
def lastRead (r : Answer) (answers : List Answer) : State :=
  { running tc .rdout .roRead answers with oidx := 3, obuf := #v[.byte 0x01, .byte 0x02, r, .nodata] }

theorem witness_DecodeAfterEncode :
    (Instr.wrdata (List.replicate 255 0xFF)).wellFormed = true ∧ (Instr.wrdata []).wellFormed = true ∧
    (Instr.rdreg 0xFF 1).wellFormed = true ∧ (Instr.rdreg 0xFF 0xFF).wellFormed = true ∧
    (Instr.sendcmd true 0xFF).wellFormed = true ∧ Instr.rdout.wellFormed = true ∧
    (Instr.pset 0x3F 0xFF).wellFormed = true ∧ (Instr.pquery 0x3F).wellFormed = true := by decide

theorem witness_EncodeAfterDecode :
    decode ⟨0x00FF3F05#32, []⟩ = .ok (.pset 0x3F 0xFF) ∧
    (decode ⟨0x00010003#32, [0x0B]⟩ = .ok (.wrdata [0x0B]) ∧ (Instr.wrdata [0x0B]).opcode = 0b011#3) := by decide

theorem witness_RequestAcceptedExactlyWhenChecksHold :
    (starting (idle tc) 0x00200003#32 (List.replicate 32 0)).busy = false ∧
    Claims.RequestChecks tc ⟨0x00200003#32, List.replicate 32 0⟩ ∧ Claims.RequestChecks tc ⟨0x00000004#32, []⟩ ∧
    Claims.RequestChecks tc ⟨0x00010002#32, []⟩ ∧ ¬ Claims.RequestChecks tc ⟨0x00000002#32, []⟩ ∧
    ¬ Claims.RequestChecks tc ⟨0x00210003#32, List.replicate 33 0⟩ ∧
    ¬ Claims.RequestChecks tc ⟨0x00004006#32, []⟩ := by
  simp only [Claims.RequestChecks]
  refine ⟨?_, ?_, ?_, ?_, ?_, ?_, ?_⟩ <;> decide

theorem witness_DecodedWordMatchesOneTableRow :
    decode ⟨0x00000109#32, []⟩ = .ok (.sendcmd true 0x01) ∧
    0x00000109#32 &&& (Claims.tableRow 0).2 = (Claims.tableRow 0).1 ∧
    ¬ 0x00000109#32 &&& (Claims.tableRow 3).2 = (Claims.tableRow 3).1 := by decide

theorem witness_StepRunsStartedInstruction :
    (starting (idle tc) 0x00000004#32 []).host = [.start ⟨0x00000004#32, []⟩] ∧
    (starting (idle tc) 0x00000004#32 []).busy = false ∧ decode ⟨0x00000004#32, []⟩ = .ok .rdout := by decide

theorem witness_StepContinuesOperationInProgress :
    (sendcmd tc false .scPoll []).Running (.sendcmd false 0x01) ∧ (sendcmd tc false .scPoll []).host = [] ∧
    State.Running (.sendcmd false 0x01) { sendcmd tc false .scPoll [] with host := [.pass] } := by
  unfold State.Running
  decide

theorem witness_OnlyStartLeavesIdle :
    (idle tc).seq = .idle ∧ (idle tc).host = [] ∧ ({ idle tc with host := [.pass] } : State).seq = .idle ∧
    ∃ t, step (starting (idle tc) 0x00000004#32 []) = .next t ∧ t.seq ≠ .idle :=
  ⟨by decide, by decide, by decide, _, rfl, by decide⟩

theorem witness_StartWhileBusyIsDiscarded :
    (starting (sendcmd tc false .scPoll []) 0x00000004#32 []).host = [.start ⟨0x00000004#32, []⟩] ∧
    (starting (sendcmd tc false .scPoll []) 0x00000004#32 []).busy = true := by decide

theorem witness_ResetActionRestoresRegisters :
    ({ sendcmd tc false .scPoll [] with host := [.reset] } : State).host = [.reset] := by decide

theorem witness_LegalOperationIsAccepted :
    (idle tc).busy = false ∧ (1 : Byte) ≠ 0 ∧ (List.replicate 32 (0 : Byte)).length ≤ 255 ∧
    (List.replicate 32 (0 : Byte)).length ≤ (idle tc).cfg.wdataMax ∧ (idle tc).cfg.hasParamAccess = true := by decide

theorem witness_IllegalOperationRaisesFault :
    (idle tc).busy = false ∧ (idle tc).cfg.wdataMax < (List.replicate 33 (0 : Byte)).length ∧
    255 < (List.replicate 256 (0 : Byte)).length ∧
    (idle { tc with hasParamAccess := false }).cfg.hasParamAccess = false := by decide

theorem witness_WrdataWritesPayloadOnce :
    let s := running tc (.wrdata [0x0B, 0x01]) .wdXfer []
    s.busy = true ∧ s.holds (.wrdata [0x0B, 0x01]) = true ∧ s.seq = .wdXfer := by decide

/-- The empty payload and one of WDATA_MAX bytes are held too. -/
theorem witness_WrdataWritesPayloadOnce_bounds :
    (running tc (.wrdata []) .wdXfer []).holds (.wrdata []) = true ∧
    (running tc (.wrdata (List.replicate 32 7)) .wdXfer []).holds (.wrdata (List.replicate 32 7)) = true := by decide

theorem witness_RdregReadsFirstByte :
    let s := running tc (.rdreg 0x11 0xFF) .rrXfer [.nodata]
    s.busy = true ∧ s.holds (.rdreg 0x11 0xFF) = true ∧ s.seq = .rrXfer := by decide

theorem witness_BusPrimitivesMakeTheirCalls :
    ({ idle tc with answers := [.byte 0xFF] } : State).answer = .byte 0xFF ∧
    ({ idle tc with answers := [.nodata] } : State).answer = .nodata ∧
    BusCall.beginTransmission 0x2A ∈ ((idle tc).busWrite []).busCalls ∧
    BusCall.requestFrom 0x2A 1 ∈ ((idle tc).busRead 0x11 1).busCalls := by
  refine ⟨by decide, by decide, by decide, ?_⟩
  simp [State.busCalls, Event.calls, State.busRead, State.record, State.answered, idle, State.reset, tc]

theorem witness_StatusDecoder :
    ({ tc with errBit := .bit4 } : Config).errBit = .bit4 ∧ ({ tc with errBit := .bit5 } : Config).errBit = .bit5 ∧
    ({ tc with errBit := .bit6 } : Config).errBit = .bit6 ∧ tc.errBit = .bit7 ∧
    tc.nodataStatusMode = .allOnes ∧ tcFault.nodataStatusMode = .fault := by decide

theorem witness_CompletionDetector :
    (14#4).toNat ≤ 14 ∧ advanced 14#4 15#4 = true ∧ (15#4).toNat = 15 ∧ advanced 15#4 0#4 = true := by decide

theorem witness_SendcmdInitStep :
    let pre := sendcmd tc false .scInit [.byte 0x8F]
    let ok := sendcmd tc false .scInit [.byte 0x0F]
    let forced := sendcmd tc true .scInit [.byte 0x80]
    let none := sendcmd tcFault false .scInit [.nodata]
    (pre.busy = true ∧ pre.holds (.sendcmd false 0x01) = true ∧ pre.seq = .scInit ∧
      decodeStatus pre.cfg pre.answer = some (15, true)) ∧
    (ok.busy = true ∧ ok.holds (.sendcmd false 0x01) = true ∧ ok.seq = .scInit ∧
      decodeStatus ok.cfg ok.answer = some (15, false)) ∧
    (forced.busy = true ∧ forced.holds (.sendcmd true 0x01) = true ∧ forced.seq = .scInit ∧
      decodeStatus forced.cfg forced.answer = some (0, true)) ∧
    (none.busy = true ∧ none.holds (.sendcmd false 0x01) = true ∧ none.seq = .scInit ∧
      decodeStatus none.cfg none.answer = .none) := by decide

theorem witness_SendcmdCommandStep :
    let s := sendcmd tc false .scCmd []
    let z := sendcmd { tc with maxRetries := 0 } false .scCmd []
    (s.busy = true ∧ s.holds (.sendcmd false 0x01) = true ∧ s.seq = .scCmd ∧ s.cfg.maxRetries ≠ 0) ∧
    (z.busy = true ∧ z.holds (.sendcmd false 0x01) = true ∧ z.seq = .scCmd ∧ z.cfg.maxRetries = 0) := by decide

/-- At the last poll (RETRY reaches MAX_RETRIES) each outcome can occur, the error first; the clauses do not overlap. -/
theorem witness_SendcmdPollStep :
    let s (r : Answer) (retry : Nat) (i : Counter) : State :=
      { sendcmd { tc with maxRetries := 2 } false .scPoll [r] with retry := retry, initCtr := i }
    let none := sendcmd tcFault false .scPoll [.nodata]
    ((s (.byte 0x8F) 1 3).busy = true ∧ (s (.byte 0x8F) 1 3).holds (.sendcmd false 0x01) = true ∧
      (s (.byte 0x8F) 1 3).seq = .scPoll) ∧
    decodeStatus tc (s (.byte 0x8F) 1 3).answer = some (15, true) ∧
    (decodeStatus tc (s (.byte 0x00) 1 15).answer = some (0, false) ∧ (s (.byte 0x00) 1 15).initCtr = 15) ∧
    (decodeStatus tc (s (.byte 0x00) 1 14).answer = some (0, false) ∧ ¬ (14 < (0#4).toNat ∨ (14#4 = 15#4 ∧ 0#4 = 0#4)) ∧
      Claims.nextRetry (s (.byte 0x00) 1 14) = (s (.byte 0x00) 1 14).cfg.maxRetries) ∧
    (decodeStatus tc (s (.byte 0x03) 0 3).answer = some (3, false) ∧ ¬ (3 < (3#4).toNat ∨ (3#4 = 15#4 ∧ 3#4 = 0#4)) ∧
      Claims.nextRetry (s (.byte 0x03) 0 3) ≠ (s (.byte 0x03) 0 3).cfg.maxRetries) ∧
    (none.busy = true ∧ none.holds (.sendcmd false 0x01) = true ∧ none.seq = .scPoll ∧
      decodeStatus none.cfg none.answer = .none) := by decide

theorem witness_NodataDuringSendcmd :
    let s (cfg : Config) (force : Bool) (q : Seq) : State := sendcmd cfg force q [.nodata]
    (∀ force : Bool, ∀ q : Seq, (s tc force q).busy = true ∧ (s tc force q).holds (.sendcmd force 0x01) = true ∧
      (s tc force q).answer = .nodata ∧ (s tc force q).seq = q ∧ (s tc force q).host = []) ∧
    tc.nodataStatusMode = .allOnes ∧ (s tcFault true .scPoll).cfg.nodataStatusMode = .fault ∧
    (s tcFault true .scPoll).busy = true ∧ (s tcFault true .scPoll).holds (.sendcmd true 0x01) = true := by
  refine ⟨fun force q => ?_, by decide, by decide, by decide, by decide⟩
  cases force <;> exact ⟨rfl, rfl, rfl, rfl, rfl⟩

theorem witness_ParamBaseStep :
    let s := pset tc .pBase 0 [.byte 0xFF]
    let u := pquery tcFault .pBase 0 [.nodata]
    (s.busy = true ∧ s.holds (.pset 0x01 0x0F) = true ∧ s.seq = .pBase ∧
      decodeStatus s.cfg s.answer = some (15, true)) ∧
    (u.busy = true ∧ u.holds (.pquery 0x01) = true ∧ u.seq = .pBase ∧ decodeStatus u.cfg u.answer = none) := by decide

theorem witness_ParamWriteSteps :
    ((pset tc .pHostin 0 []).busy = true ∧ (pset tc .pHostin 0 []).holds (.pset 0x01 0x0F) = true) ∧
    ((pset tc .pCmd 0 []).holds (.pset 0x01 0x0F) = true ∧ (pset tc .pCmd 0 []).seq = .pCmd) ∧
    ((pquery tc .pCmd 0 []).busy = true ∧ (pquery tc .pCmd 0 []).holds (.pquery 0x01) = true ∧
      (pquery tc .pCmd 0 []).seq = .pCmd) := by decide

/-- The clauses meet at c = PRIOR_CTR: it ends the loop, and the next value continues it. -/
theorem witness_ParamPollStep :
    let on := pset tc .pPoll 14 [.byte 0x0F]
    let last := pset tc .pPoll 14 [.byte 0x0E]
    let go := pquery tcFixed .pPoll 14 [.byte 0x00]
    let none := pquery tcFault .pPoll 14 [.nodata]
    (on.busy = true ∧ on.holds (.pset 0x01 0x0F) = true ∧ on.seq = .pPoll ∧
      decodeStatus on.cfg on.answer = some (15, false) ∧ on.priorCtr.toNat < (15#4).toNat) ∧
    (last.busy = true ∧ last.holds (.pset 0x01 0x0F) = true ∧
      decodeStatus last.cfg last.answer = some (14, false) ∧ (14#4).toNat ≤ last.priorCtr.toNat) ∧
    (go.busy = true ∧ go.holds (.pquery 0x01) = true ∧ go.seq = .pPoll ∧
      decodeStatus go.cfg go.answer = some (0, false) ∧ (0#4).toNat ≤ go.priorCtr.toNat) ∧
    (none.busy = true ∧ none.holds (.pquery 0x01) = true ∧ decodeStatus none.cfg none.answer = .none) := by decide

theorem witness_ParamReadStep :
    let s := pquery tc .pRead 0 [.nodata]
    s.busy = true ∧ s.holds (.pquery 0x01) = true ∧ s.seq = .pRead := by decide

theorem witness_NodataDuringParameterAccess :
    let s (cfg : Config) (q : Seq) (prior : Counter) : State := pquery cfg q prior [.nodata]
    ((s tc .pBase 0).busy = true ∧ (s tc .pBase 0).holds (.pquery 0x01) = true ∧ (s tc .pBase 0).answer = .nodata ∧
      (s tc .pBase 0).cfg.nodataStatusMode = .allOnes) ∧
    ((s tc .pPoll 15).priorCtr = 15 ∧ (s tc .pPoll 15).holds (.pquery 0x01) = true) ∧
    ((s tcFixed .pPoll 14).cfg.paramBaseline = .fixedInitial ∧ (s tcFixed .pPoll 14).priorCtr.toNat < 15 ∧
      (s tcFixed .pPoll 14).host = [] ∧ (∀ r ∈ (s tcFixed .pPoll 14).answers.take 1, r = .nodata)) ∧
    ((s tcFault .pPoll 14).cfg.nodataStatusMode = .fault ∧ (s tcFault .pPoll 14).holds (.pquery 0x01) = true) ∧
    ((s tc .pRead 3).seq = .pRead ∧ (s tc .pRead 3).holds (.pquery 0x01) = true) := by decide

theorem witness_RdoutReadStep :
    let s := running tc .rdout .roRead [.nodata]
    let ok := lastRead (.byte 0x00) [.byte 0x64]
    let bad := lastRead .nodata [.byte 0x64]
    (s.busy = true ∧ s.holds .rdout = true ∧ s.seq = .roRead ∧ s.oidx ≠ 3) ∧
    (ok.holds .rdout = true ∧ ok.oidx = 3 ∧ ok.obuf[0] = .byte 0x01 ∧ ok.obuf[1] = .byte 0x02 ∧
      ok.obuf[2] = .byte 0x00 ∧ ok.answer = .byte 0x64) ∧
    (bad.holds .rdout = true ∧ bad.oidx = 3 ∧ bad.obuf[2] = .nodata) := by decide

/-- Each frame's hypothesis is met by a Start and by an engine step. -/
theorem witness_TransportFrame :
    (∃ t, exec (.wrdata [1]) (idle tc) = .next t ∧ (idle tc).busy = false) ∧
    (∃ t, exec (.wrdata [1]) (running tc (.wrdata [1]) .wdXfer []) = .next t) ∧
    (∃ t, exec (.rdreg 1 2) (running tc (.rdreg 1 2) .rrXfer []) = .next t ∧
      (running tc (.rdreg 1 2) .rrXfer []).busy = true) :=
  ⟨⟨_, rfl, by decide⟩, ⟨_, rfl⟩, _, rfl, by decide⟩

theorem witness_SendcmdFrame :
    (∃ t, exec (.sendcmd false 0x01) (idle tc) = .next t ∧ (idle tc).busy = false) ∧
    (∃ t, exec (.sendcmd false 0x01) (sendcmd tc false .scInit [.byte 3]) = .next t ∧ t.initCtr ≠ 0 ∧ t.busy = true) ∧
    (∃ t, exec (.sendcmd false 0x01) (sendcmd tc false .scPoll [.byte 0]) = .next t ∧ t.retry ≠ 0) :=
  ⟨⟨_, rfl, by decide⟩, ⟨_, rfl, by decide, by decide⟩, _, rfl, by decide⟩

theorem witness_ParamFrame :
    (∃ t, exec (.pset 0x01 0x0F) (idle tc) = .next t ∧ (idle tc).busy = false) ∧
    (∃ t, exec (.pset 0x01 0x0F) (pset tc .pBase 0 [.byte 3]) = .next t ∧ t.priorCtr ≠ 0) ∧
    (∃ t, exec (.pquery 0x01) (pquery tc .pRead 0 [.byte 3]) = .next t ∧ t.res ≠ 0) :=
  ⟨⟨_, rfl, by decide⟩, ⟨_, rfl, by decide⟩, _, rfl, by decide⟩

theorem witness_RdoutFrame :
    (∃ t, exec .rdout (idle tc) = .next t ∧ (idle tc).busy = false) ∧
    (∃ t, exec .rdout (running tc .rdout .roRead [.nodata]) = .next t ∧ t.busy = true) ∧
    (1 : Fin 4) ≠ (running tc .rdout .roRead [.nodata]).oidx :=
  ⟨⟨_, rfl, by decide⟩, ⟨_, rfl, by decide⟩, by decide⟩

/-- A state with an operation in progress that meets the invariant, at the last allowed poll. -/
def lastPoll (r : Answer) : State :=
  { sendcmd { tc with maxRetries := 2, nodataStatusMode := .fault } false .scPoll [r] with retry := 1, initCtr := 3 }

theorem witness_inv_lastPoll (r : Answer) : (lastPoll r).Inv where
  busyIffNotIdle := rfl
  notDoneWhileBusy := by intro; rfl
  latch := rfl
  retryBound := by show 1 ≤ 2; decide
  retryBelow := by intro; show 1 < 2; decide
  wbufLength := rfl

theorem witness_inv_idle : (idle tc).Inv where
  busyIffNotIdle := by decide
  notDoneWhileBusy := by decide
  latch := by decide
  retryBound := by decide
  retryBelow := by decide
  wbufLength := by decide

theorem witness_StepKeepsTheMachineInvariant :
    (lastPoll (.byte 3)).Inv ∧ ∃ t, step (lastPoll (.byte 3)) = .next t ∧ t.busy = false :=
  ⟨witness_inv_lastPoll _, _, rfl, by decide⟩

/-- The last poll brings RETRY to MAX_RETRIES, and the widest value of the register is within its bits too. -/
theorem witness_RetryNeverWraps :
    ((lastPoll (.byte 3)).Inv ∧ (lastPoll (.byte 3)).seq = .scPoll ∧
      ∃ t, step (lastPoll (.byte 3)) = .next t ∧ t.retry = t.cfg.maxRetries) ∧
    ({ idle tc with retry := 16383 } : State).retry < 2 ^ tc.retryW ∧
    ∃ t, step { idle tc with retry := 16383 } = .next t :=
  ⟨⟨witness_inv_lastPoll _, rfl, _, rfl, by decide⟩, by decide, _, rfl⟩

/-- The reset clause, the sticky clause, and one step for each bit that sets it. -/
theorem witness_FaultBitsAreSticky :
    (∃ t, step { idle tc with host := [.reset], fault := 7 } = .next t ∧ t.fault = 0) ∧
    (∃ t, step { idle tc with fault := 7 } = .next t ∧ t.fault = 7) ∧
    (∃ t, step (starting (idle tc) 0x00000000#32 []) = .next t ∧ t.fault.getLsbD 0 = true) ∧
    (∃ t, step (starting (lastPoll .nodata) 0x00000004#32 []) = .next t ∧ t.fault.getLsbD 1 = true) ∧
    (∃ t, step (lastPoll .nodata) = .next t ∧ t.fault.getLsbD 2 = true) :=
  ⟨⟨_, rfl, by decide⟩, ⟨_, rfl, by decide⟩, ⟨_, rfl, by decide⟩, ⟨_, rfl, by decide⟩, _, rfl, by decide⟩

theorem witness_FaultBitsInfluenceNothing :
    ∃ t, step (lastPoll (.byte 3)) = .next t ∧ t.fault ≠ (5 : BitVec 3) :=
  ⟨_, rfl, by decide⟩

theorem witness_AtMostOneTransactionPerStep :
    (∃ t, step (lastPoll (.byte 3)) = .next t ∧ t.trace ≠ (lastPoll (.byte 3)).trace) ∧
    (∃ t, step (running tc (.wrdata [1]) .wdXfer []) = .next t ∧ t.trace = [.write [1]]) ∧
    (∃ t, step { lastPoll (.byte 3) with host := [.reset] } = .next t ∧ HostTurn.reset ≠ HostTurn.pass) :=
  ⟨⟨_, rfl, by decide⟩, ⟨_, rfl, by decide⟩, _, rfl, by decide⟩

theorem witness_ConfigurationIsStatic :
    ∃ t, step { idle tc with host := [.pass, .reset] } = .next t ∧ t.host = [.reset] :=
  ⟨_, rfl, by decide⟩

/-- The invariant of two states whose next host turn is a Start. -/
theorem witness_inv_starting :
    (State.Inv { starting (idle tc) 0x00000004#32 [] with done := true }) ∧
    (starting (lastPoll (.byte 3)) 0x00000004#32 []).Inv :=
  ⟨⟨by decide, by decide, by decide, by decide, by decide, by decide⟩,
    ⟨by decide, by decide, by decide, by decide, by decide, by decide⟩⟩

theorem witness_DoneMarksTheEnd :
    ((lastPoll (.byte 3)).Inv ∧ ∃ t, step (lastPoll (.byte 3)) = .next t ∧
      (lastPoll (.byte 3)).busy = true ∧ t.busy = false ∧ (lastPoll (.byte 3)).done = false ∧ t.done = true) ∧
    (State.Inv { starting (idle tc) 0x00000004#32 [] with done := true } ∧
      ∃ t, step { starting (idle tc) 0x00000004#32 [] with done := true } = .next t ∧ t.done = false) ∧
    ((starting (lastPoll (.byte 3)) 0x00000004#32 []).Inv ∧ (starting (lastPoll (.byte 3)) 0x00000004#32 []).busy = true ∧
      ∃ t, step (starting (lastPoll (.byte 3)) 0x00000004#32 []) = .next t) :=
  ⟨⟨witness_inv_lastPoll _, _, rfl, by decide, by decide, by decide, by decide⟩,
    ⟨witness_inv_starting.1, _, rfl, by decide⟩, witness_inv_starting.2, by decide, _, rfl⟩

theorem witness_ResultRegistersWriters :
    (∃ t, step (lastPoll (.byte 3)) = .next t ∧ t.res ≠ (lastPoll (.byte 3)).res) ∧
    (∃ t, step (lastRead (.byte 0) [.byte 1]) = .next t ∧ t.ir ≠ (lastRead (.byte 0) [.byte 1]).ir ∧
      t.vis ≠ (lastRead (.byte 0) [.byte 1]).vis) :=
  ⟨⟨_, rfl, by decide⟩, _, rfl, by decide, by decide⟩

theorem witness_SendcmdRunsTheAlgorithm :
    (sendcmd tc false .scInit [.byte 0x83]).Running (.sendcmd false 0x01) ∧
    decodeStatus tc (.byte 0x83) = some (3, true) ∧
    (sendcmd tc false .scInit [.byte 0x03, .byte 0x03, .byte 0x04]).Running (.sendcmd false 0x01) ∧
    Claims.pollLoop tc 3 tc.maxRetries [.byte 0x03, .byte 0x04] = some (.success, 2) ∧
    Claims.pollLoop tc 3 0 [] = some (.timeout, 0) ∧
    (sendcmd tc true .scInit [.byte 0x83, .byte 0x85]).Running (.sendcmd true 0x01) ∧
    Claims.pollLoop tc 3 tc.maxRetries [.byte 0x85] = some (.deviceError 5, 1) := by
  unfold State.Running
  decide

theorem witness_PsetRunsTheAlgorithm :
    (pset tc .pBase 0 [.byte 0x05, .byte 0x06, .byte 0x06]).Running (.pset 0x01 0x0F) ∧
    decodeStatus tc (.byte 0x05) = some (5, false) ∧
    Claims.paramLoop tc 5 [.byte 0x06, .byte 0x06] = some (2, 6) ∧
    Claims.paramLoop tcFixed 5 [.byte 0x06, .byte 0x05] = some (2, 5) := by
  unfold State.Running
  decide

theorem witness_PqueryRunsTheAlgorithm :
    (pquery tc .pBase 0 [.byte 0x05, .byte 0x06, .byte 0x06, .byte 0x0F]).Running (.pquery 0x01) ∧
    decodeStatus tc (.byte 0x05) = some (5, false) ∧
    Claims.paramLoop tc 5 [.byte 0x06, .byte 0x06, .byte 0x0F] = some (2, 6) ∧
    [Answer.byte 0x06, .byte 0x06, .byte 0x0F].drop 2 = .byte 0x0F :: [] := by
  unfold State.Running
  decide

theorem witness_RdoutRunsFourReads :
    (running tc .rdout .roRead [.byte 1, .byte 2, .byte 0, .byte 0x64]).Running .rdout ∧
    (running tc .rdout .roRead [.byte 1, .byte 2, .byte 0, .byte 0x64]).oidx = 0 ∧
    (running tc .rdout .roRead [.nodata, .byte 2, .byte 0, .byte 0x64]).Running .rdout := by
  unfold State.Running
  decide

/-- Both modes at c0 = 15 and at c0 = 14; a poll that continues; a poll at the baseline, which ends the loop. -/
theorem witness_ParameterPollTermination :
    (pset tc .pPoll 15 []).Running (.pset 0x01 0x0F) ∧ (pset tc .pPoll 15 []).cfg.paramBaseline = .previousPoll ∧
    (pset tc .pPoll 14 [.byte 0x0F]).Running (.pset 0x01 0x0F) ∧
    (pquery tcFixed .pPoll 14 [.byte 0x0F]).Running (.pquery 0x01) ∧ tcFixed.paramBaseline = .fixedInitial ∧
    (decodeStatus tcFixed (.byte 0x0F) = some (15, false) ∧ (14#4).toNat < (15#4).toNat) ∧
    decodeStatus tcFixed (.byte 0x0E) = some (14, false) ∧
    (pquery tcFixed .pPoll 15 []).Running (.pquery 0x01) ∧ (pquery tcFixed .pPoll 15 []).priorCtr = 15 := by
  unfold State.Running
  decide

/-- The step that keeps polling under PREVIOUS_POLL. -/
theorem witness_ParameterPollTermination_continues :
    ∃ t, run 1 (pset tc .pPoll 14 [.byte 0x0F]) = .next t ∧ t.seq = .pPoll :=
  ⟨_, rfl, by decide⟩

theorem witness_BoundedOperationsEnd :
    (lastPoll (.byte 3)).Inv ∧ (lastPoll (.byte 3)).Running (.sendcmd false 0x01) ∧ (lastPoll (.byte 3)).host = [] ∧
    (lastPoll (.byte 3)).cfg.paramBaseline ≠ .fixedInitial :=
  ⟨witness_inv_lastPoll _, ⟨by decide, by decide, by decide⟩, by decide, by decide⟩

/-- A parameter operation under PREVIOUS_POLL meets them too, at its last states. -/
theorem witness_BoundedOperationsEnd_param :
    (pquery tc .pRead 3 []).Inv ∧ (pquery tc .pRead 3 []).Running (.pquery 0x01) ∧
    tc.paramBaseline ≠ .fixedInitial :=
  ⟨⟨by decide, by decide, by decide, by decide, by decide, by decide⟩, ⟨by decide, by decide, by decide⟩, by decide⟩

/-- Two engines with different stale registers. -/
theorem witness_StaleRegistersAreNotObserved :
    let s := starting (idle tc) 0x00000101#32 []
    let u : State := { s with initCtr := 9, priorCtr := 7, retry := 5, oidx := 2, obuf := Vector.replicate 4 .nodata }
    s.seq = .idle ∧ s.busy = false ∧ u.seq = .idle ∧ u.busy = false ∧ s.cfg = u.cfg ∧ s.host = u.host ∧
    s.answers = u.answers ∧ s.draws = u.draws ∧ s.trace = u.trace ∧ s.res = u.res ∧ s.initCtr ≠ u.initCtr := by decide

end Sys2Proof.Tests
end

/-! What one step does outside the engine registers: to the configuration, the event record, the environment's answers
and the host's plan (spec/00_scope.md R3, R8, R13). -/

namespace Sys2Proof.Machine

/-- `t` and `s` agree on everything outside the engine registers and the draw count. -/
structure State.SameOutside (s t : State) : Prop where
  cfg : t.cfg = s.cfg
  trace : t.trace = s.trace
  answers : t.answers = s.answers
  host : t.host = s.host

/-- `t` is `s` after at most one bus primitive (spec/40_transport.md R140, R141) and some writes of engine registers. -/
inductive State.BusStep (s t : State) : Prop where
  | silent (same : s.SameOutside t)
  | write (bytes : List Byte) (same : (s.busWrite bytes).SameOutside t)
  | read (reg count : Byte) (same : (s.busRead reg count).SameOutside t)

/-- A status read and the rest of its step are one `BusRead`. -/
theorem State.BusStep.ofStatusRead {s t : State} (same : s.statusRead.SameOutside t) : s.BusStep t :=
  .read s.cfg.regStatus 1 same

/-- A read of an output register and the rest of its step are one `BusRead` (43_output_reading.md R261). -/
theorem State.BusStep.ofOutputRead {s t : State} (same : s.outputRead.SameOutside t) : s.BusStep t :=
  .read (outRegister s.cfg s.oidx) 1 ⟨same.cfg, same.trace, same.answers, same.host⟩

/-- Every sequencer state's step is at most one bus primitive (00_scope.md R3). -/
theorem State.engineStep_busStep (s : State) : s.BusStep s.engineStep :=
  s.engineStep_elim State.BusStep
    (idle := fun _ => .silent ⟨rfl, rfl, rfl, rfl⟩)
    (nodata := fun _ _ => .ofStatusRead ⟨rfl, rfl, rfl, rfl⟩)
    (preheld := fun _ _ _ _ => .ofStatusRead ⟨rfl, rfl, rfl, rfl⟩)
    (initial := fun _ _ _ _ _ => .ofStatusRead ⟨rfl, rfl, rfl, rfl⟩)
    (noPolls := fun _ _ => .write _ ⟨rfl, rfl, rfl, rfl⟩)
    (command := fun _ _ => .write _ ⟨rfl, rfl, rfl, rfl⟩)
    (pollEnd := fun _ _ => .ofStatusRead ⟨rfl, rfl, rfl, rfl⟩)
    (pollOn := fun _ _ => .ofStatusRead ⟨rfl, rfl, rfl, rfl⟩)
    (write := fun _ => .write _ ⟨rfl, rfl, rfl, rfl⟩)
    (read := fun _ => .read _ _ ⟨rfl, rfl, rfl, rfl⟩)
    (baseline := fun _ _ => .ofStatusRead ⟨rfl, rfl, rfl, rfl⟩)
    (hostin := fun _ => .write _ ⟨rfl, rfl, rfl, rfl⟩)
    (tagged := fun _ => .write _ ⟨rfl, rfl, rfl, rfl⟩)
    (paramOn := fun _ _ => .ofStatusRead ⟨rfl, rfl, rfl, rfl⟩)
    (paramEnd := fun _ _ => .ofStatusRead ⟨rfl, rfl, rfl, rfl⟩)
    (paramGo := fun _ _ => .ofStatusRead ⟨rfl, rfl, rfl, rfl⟩)
    (value := fun _ => .read _ _ ⟨rfl, rfl, rfl, rfl⟩)
    (output := fun _ _ => .ofOutputRead ⟨rfl, rfl, rfl, rfl⟩)
    (assembled := fun _ _ _ _ => .ofOutputRead ⟨rfl, rfl, rfl, rfl⟩)
    (failed := fun _ _ _ _ _ => .ofOutputRead ⟨rfl, rfl, rfl, rfl⟩)

/-- An accepted Start writes engine registers only (60_exceptions.md R288). -/
theorem beginState_accept_sameOutside (i : Instr) (s : State) : s.SameOutside (beginState i (s.accept i)) := by
  cases i <;> exact ⟨rfl, rfl, rfl, rfl⟩

/-- Fault entry writes engine registers only (60_exceptions.md R283). -/
theorem State.raise_sameOutside (f : EngineFault) (s : State) : s.SameOutside (s.raise f) := by
  cases f <;> exact ⟨rfl, rfl, rfl, rfl⟩

/-- An operation requested of an idle engine, legal or not, writes engine registers only. -/
theorem exec_idle_sameOutside {i : Instr} {s t : State} (hb : s.busy = false) (h : exec i s = .next t) :
    s.SameOutside t := by
  cases hl : legal s.cfg i
  · rw [exec_of_illegal hb hl] at h
    cases h
    exact ⟨rfl, rfl, rfl, rfl⟩
  · rw [exec_of_legal hb hl] at h
    cases h
    exact beginState_accept_sameOutside i s

/-- A step is the engine's, when the host has planned nothing or passes, or a host action, which writes engine registers
only. Either way the host's first turn is used up. -/
theorem step_engine_or_hostAction {s t : State} (h : step s = .next t) :
    ((s.host = [] ∨ ∃ rest, s.host = .pass :: rest) ∧ t = State.engineStep { s with host := s.host.tail }) ∨
    State.SameOutside { s with host := s.host.tail } t := by
  rcases step_cases s with ⟨rest, hh, he⟩ | ⟨rest, hh, he⟩ | ⟨req, rest, hh, -, he⟩ | ⟨req, rest, r, hh, -, -, he⟩ |
    ⟨req, rest, i, hh, hb, -, he⟩ <;> rw [he] at h
  · cases h
    obtain ⟨hh, rfl⟩ | hh := hh
    · exact .inl ⟨.inl hh, by rw [hh, List.tail_nil]⟩
    · exact .inl ⟨.inr ⟨rest, hh⟩, by rw [hh, List.tail_cons]⟩
  all_goals rw [hh, List.tail_cons]; right
  · cases h
    exact ⟨rfl, rfl, rfl, rfl⟩
  · cases h
    exact State.raise_sameOutside _ _
  · cases h
    exact ⟨rfl, rfl, rfl, rfl⟩
  · exact exec_idle_sameOutside hb h

/-- Every step uses up the host's first turn and then makes at most one bus primitive. -/
theorem step_busStep {s t : State} (h : step s = .next t) : State.BusStep { s with host := s.host.tail } t := by
  obtain ⟨-, rfl⟩ | same := step_engine_or_hostAction h
  · exact State.engineStep_busStep _
  · exact .silent same

/-- A Start or a reset makes no bus transaction (60_exceptions.md R288, 70_reset_and_hazards.md R320). -/
theorem step_hostAction_sameOutside {s t : State} {turn : HostTurn} {rest : List HostTurn} (h : step s = .next t)
    (hh : s.host = turn :: rest) (hp : turn ≠ .pass) : State.SameOutside { s with host := s.host.tail } t := by
  obtain ⟨hn | ⟨_, hn⟩, -⟩ | same := step_engine_or_hostAction h
  · simp [hh] at hn
  · simp [hh, hp] at hn
  · exact same

/-- Settles O41: the primitive of the step's `BusStep` is its transaction. -/
theorem atMostOneTransactionPerStep : Obligations.AtMostOneTransactionPerStep := by
  intro s t h
  constructor
  · cases step_busStep h with
    | silent same => exact .inl ⟨same.trace, same.answers⟩
    | write bytes same => exact .inr (.inl ⟨bytes, same.trace, same.answers⟩)
    | read reg count same =>
      refine .inr (.inr ⟨reg, count, ?_, ?_⟩)
      · rw [same.trace, State.busRead_trace]; rfl
      · rw [same.answers, State.busRead_answers]
  · rintro ⟨turn, rest, hh, hp⟩
    have same := step_hostAction_sameOutside h hh hp
    exact ⟨same.trace, same.answers⟩

/-- Settles O42: neither a bus primitive nor a write of engine registers touches the configuration or the host's plan. -/
theorem configurationIsStatic : Obligations.ConfigurationIsStatic := by
  intro s t h
  cases step_busStep h with
  | silent same => exact ⟨same.cfg, same.host⟩
  | write bytes same => exact ⟨same.cfg, same.host⟩
  | read reg count same =>
    exact ⟨same.cfg.trans (State.busRead_cfg ..), same.host.trans (State.busRead_host ..)⟩

end Sys2Proof.Machine

/-! What one step is: the engine's, the reset action, or a Start that is discarded, refused or accepted
(spec/60_exceptions.md R288); one equation for each, and the inversion. -/

namespace Sys2Proof.Machine

/-- With nothing planned the engine moves. -/
theorem step_of_silent {s : State} (hh : s.host = []) : step s = .next s.engineStep := by
  simp [step, turn, hh]

/-- Where the host passes the engine moves. -/
theorem step_of_pass {s : State} {rest : List HostTurn} (hh : s.host = .pass :: rest) :
    step s = .next (State.engineStep { s with host := rest }) := by
  simp [step, turn, hh]

theorem step_of_reset {s : State} {rest : List HostTurn} (hh : s.host = .reset :: rest) :
    step s = .next (State.resetAction { s with host := rest }) := by
  simp [step, turn, hh]

theorem step_of_start {s : State} {req : Request} {rest : List HostTurn} (hh : s.host = .start req :: rest) :
    step s = startAction req { s with host := rest } := by
  simp [step, turn, hh]

/-- A Start while BUSY = 1 is discarded (70_reset_and_hazards.md R323). -/
theorem step_of_busyStart {s : State} {req : Request} {rest : List HostTurn} (hh : s.host = .start req :: rest)
    (hb : s.busy = true) : step s = .next (State.raise .startWhileBusy { s with host := rest }) :=
  (step_of_start hh).trans (if_pos hb)

/-- A request for no legal operation is refused. -/
theorem step_of_refused {s : State} {req : Request} {rest : List HostTurn} (hh : s.host = .start req :: rest)
    (hb : s.busy = false) (hr : ∀ i, decode req = .ok i → legal s.cfg i = false) :
    step s = .next (State.raise .illegalRequest { s with host := rest, done := false }) := by
  rw [step_of_start hh, startAction, if_neg (by simp [hb])]
  cases hd : decode req with
  | error r => rfl
  | ok i => exact exec_of_illegal hb (hr i hd)

theorem step_of_accepted {s : State} {req : Request} {rest : List HostTurn} {i : Instr}
    (hh : s.host = .start req :: rest) (hb : s.busy = false) (hd : decode req = .ok i) (hl : legal s.cfg i = true) :
    step s = .next (beginState i (State.accept i { s with host := rest })) := by
  rw [step_of_start hh, startAction, if_neg (by simp [hb]), hd]
  exact exec_of_legal hb hl

/-- The five kinds of step, each with the state it leads to. -/
inductive StepKind (s : State) : State → Prop where
  | engine (rest : List HostTurn) (hh : s.host = [] ∧ rest = [] ∨ s.host = .pass :: rest) :
      StepKind s (State.engineStep { s with host := rest })
  | reset (rest : List HostTurn) (hh : s.host = .reset :: rest) : StepKind s (State.resetAction { s with host := rest })
  | busyStart (req : Request) (rest : List HostTurn) (hh : s.host = .start req :: rest) (hb : s.busy = true) :
      StepKind s (State.raise .startWhileBusy { s with host := rest })
  | refused (req : Request) (rest : List HostTurn) (hh : s.host = .start req :: rest) (hb : s.busy = false)
      (hr : ∀ i, decode req = .ok i → legal s.cfg i = false) :
      StepKind s (State.raise .illegalRequest { s with host := rest, done := false })
  | accepted (req : Request) (rest : List HostTurn) (i : Instr) (hh : s.host = .start req :: rest)
      (hb : s.busy = false) (hl : legal s.cfg i = true) :
      StepKind s (beginState i (State.accept i { s with host := rest }))

/-- Every step is of one of the five kinds. -/
theorem stepKind_of_step {s t : State} (h : step s = .next t) : StepKind s t := by
  rcases step_cases s with ⟨rest, hh, he⟩ | ⟨rest, hh, he⟩ | ⟨req, rest, hh, hb, he⟩ | ⟨req, rest, r, hh, hb, hd, he⟩ |
    ⟨req, rest, i, hh, hb, hd, he⟩
  · cases he.symm.trans h
    exact .engine rest hh
  · cases he.symm.trans h
    exact .reset rest hh
  · cases he.symm.trans h
    exact .busyStart req rest hh hb
  · cases he.symm.trans h
    exact .refused req rest hh hb (by simp [hd])
  · cases hl : legal s.cfg i
    · have hr : ∀ j, decode req = .ok j → legal s.cfg j = false := by
        intro j hj
        cases hd.symm.trans hj
        exact hl
      cases (step_of_refused hh hb hr).symm.trans h
      exact .refused req rest hh hb hr
    · cases (step_of_accepted hh hb hd hl).symm.trans h
      exact .accepted req rest i hh hb hl

/-- Settles O7: a silent or passing host leaves the turn to the engine, whose step is the running operation's. -/
theorem stepContinuesOperationInProgress : Obligations.StepContinuesOperationInProgress := by
  intro s i hrun
  constructor
  · intro hh
    exact (step_of_silent hh).trans (exec_of_running hrun).symm
  · intro rest hh
    have hrun' : State.Running i { s with host := rest } := hrun
    exact (step_of_pass hh).trans (exec_of_running hrun').symm

end Sys2Proof.Machine

/-! What an accepted Start leaves (spec/60_exceptions.md R288): the first sequencer state, and latches that the decoder
reads back as the operation. -/

namespace Sys2Proof

/-- The field A of a parameter location has 00 in bits 7:6 (30_encoding.md R103 C7). -/
theorem locationTop_zeroExtend (loc : BitVec 6) : (loc.zeroExtend 8).extractLsb' 6 2 = 0 := by
  ext k hk
  simp

/-- Bits 5:0 of that field are the location. -/
theorem location_zeroExtend (loc : BitVec 6) : (loc.zeroExtend 8).extractLsb' 0 6 = loc := by
  ext k hk
  have hk8 : k < 8 := by omega
  simp [hk, hk8]

/-- The decoder reads a well-formed operation back from its own fields. Only WRDATA's payload matters. -/
theorem decodeOperands_of_wellFormed {i : Instr} {bytes : List Byte} (hw : i.wellFormed = true)
    (hp : i.opcode = opWrdata → bytes = i.payloadBytes) :
    decodeOperands i.opcode i.forceBit i.operandA i.operandB bytes = .ok i := by
  cases i with
  | sendcmd force code => rfl
  | rdreg reg count =>
    have hc : count ≠ 0 := by simpa [Instr.wellFormed] using hw
    exact if_neg hc
  | wrdata payload =>
    have hl : payload.length ≤ 255 := by simpa [Instr.wellFormed] using hw
    obtain rfl : bytes = payload := hp rfl
    have hb : (BitVec.ofNat 8 bytes.length).toNat = bytes.length := Nat.mod_eq_of_lt (by omega)
    have h : decodeOperands opWrdata false 0 (BitVec.ofNat 8 bytes.length) bytes = .ok (.wrdata bytes) := by
      simp [decodeOperands, opSendcmd, opRdreg, opWrdata, hb]
    exact h
  | rdout => rfl
  | pset loc value =>
    have h : decodeOperands opPset false (loc.zeroExtend 8) value bytes = .ok (.pset loc value) := by
      simp [decodeOperands, opSendcmd, opRdreg, opWrdata, opRdout, opPset, locationTop_zeroExtend, location_zeroExtend]
    exact h
  | pquery loc =>
    have h : decodeOperands opPquery false (loc.zeroExtend 8) 0 bytes = .ok (.pquery loc) := by
      simp [decodeOperands, opSendcmd, opRdreg, opWrdata, opRdout, opPset, opPquery, locationTop_zeroExtend,
        location_zeroExtend]
    exact h

/-- The decoder reads the operation code from the field OP. -/
theorem opcode_of_decodeOperands {op : BitVec 3} {f : Bool} {a b : Byte} {bytes : List Byte} {i : Instr}
    (h : decodeOperands op f a b bytes = .ok i) : op = i.opcode := by
  unfold decodeOperands at h
  split_ifs at h with hop <;> cases h <;> assumption

end Sys2Proof

namespace Sys2Proof.Machine

@[simp] theorem beginState_busy (i : Instr) (s : State) : (beginState i s).busy = s.busy := by cases i <;> rfl
@[simp] theorem beginState_done (i : Instr) (s : State) : (beginState i s).done = s.done := by cases i <;> rfl
@[simp] theorem beginState_fault (i : Instr) (s : State) : (beginState i s).fault = s.fault := by cases i <;> rfl
@[simp] theorem beginState_op (i : Instr) (s : State) : (beginState i s).op = s.op := by cases i <;> rfl
@[simp] theorem beginState_force (i : Instr) (s : State) : (beginState i s).force = s.force := by cases i <;> rfl
@[simp] theorem beginState_a (i : Instr) (s : State) : (beginState i s).a = s.a := by cases i <;> rfl
@[simp] theorem beginState_b (i : Instr) (s : State) : (beginState i s).b = s.b := by cases i <;> rfl
@[simp] theorem beginState_retry (i : Instr) (s : State) : (beginState i s).retry = s.retry := by cases i <;> rfl
@[simp] theorem beginState_res (i : Instr) (s : State) : (beginState i s).res = s.res := by cases i <;> rfl
@[simp] theorem beginState_ir (i : Instr) (s : State) : (beginState i s).ir = s.ir := by cases i <;> rfl
@[simp] theorem beginState_vis (i : Instr) (s : State) : (beginState i s).vis = s.vis := by cases i <;> rfl
@[simp] theorem beginState_cfg (i : Instr) (s : State) : (beginState i s).cfg = s.cfg := by cases i <;> rfl

/-- The first sequencer state of an operation is one of its own. -/
theorem ownState_beginState (i : Instr) (s : State) : ownState i (beginState i s).seq = true := by
  cases i <;> rfl

/-- No operation begins with a poll. -/
theorem seq_beginState_ne_scPoll (i : Instr) (s : State) : (beginState i s).seq ≠ .scPoll := by
  cases i <;> nofun

/-- IDLE belongs to no operation. -/
theorem ownState_idle (i : Instr) : ownState i .idle = false := by
  cases i <;> rfl

theorem ne_idle_of_ownState {i : Instr} {q : Seq} (h : ownState i q = true) : q ≠ .idle := by
  rintro rfl
  simp [ownState_idle] at h

theorem legal_iff {cfg : Config} {i : Instr} : legal cfg i = true ↔ i.wellFormed = true ∧ permitted cfg i = true := by
  simp [legal]

/-- An accepted WRDATA sends its payload (40_transport.md R143). -/
theorem sendBytes_beginState_accept {i : Instr} (s : State) (hw : i.wellFormed = true) (hi : i.opcode = opWrdata) :
    (beginState i (s.accept i)).sendBytes = i.payloadBytes := by
  cases i with
  | wrdata payload =>
    have hl : payload.length ≤ 255 := by simpa [Instr.wellFormed] using hw
    have hb : (BitVec.ofNat 8 payload.length).toNat = payload.length := Nat.mod_eq_of_lt (by omega)
    show (payload ++ s.wbuf.drop payload.length).take (BitVec.ofNat 8 payload.length).toNat = payload
    rw [hb, List.take_left]
  | _ => cases hi

/-- What an accepted Start latches is its operation. -/
theorem latched_beginState_accept {i : Instr} (s : State) (hw : i.wellFormed = true) :
    (beginState i (s.accept i)).latched = some i := by
  simp [State.latched, decodeOperands_of_wellFormed hw (sendBytes_beginState_accept s hw)]

/-- An accepted WRDATA within WDATA_MAX keeps WBUF's length. -/
theorem wbuf_length_beginState_accept {i : Instr} {s : State} (hl : legal s.cfg i = true)
    (hs : s.wbuf.length = s.cfg.wdataMax) : (beginState i (s.accept i)).wbuf.length = s.cfg.wdataMax := by
  cases i with
  | wrdata payload =>
    have hp : payload.length ≤ s.cfg.wdataMax := by simpa [permitted] using (legal_iff.mp hl).2
    show (payload ++ s.wbuf.drop payload.length).length = s.cfg.wdataMax
    rw [List.length_append, List.length_drop, hs]
    omega
  | _ => exact hs

end Sys2Proof.Machine

/-! The machine's invariant (spec/10_state.md R31, R32, R39; 60_exceptions.md R288) is kept by every step: an operation
ends, goes on to another of its own sequencer states, or is newly latched. -/

namespace Sys2Proof.Machine

/-- The latches are right when, while BUSY = 1, they hold a legal operation with SEQ one of its states. -/
theorem latchOk_iff {s : State} : s.latchOk = true ↔
    (s.busy = true → ∃ i, s.latched = some i ∧ legal s.cfg i = true ∧ ownState i s.seq = true) := by
  unfold State.latchOk
  cases s.busy <;> cases s.latched <;> simp

theorem op_eq_opcode_of_latched {s : State} {i : Instr} (h : s.latched = some i) : s.op = i.opcode := by
  unfold State.latched at h
  split at h
  · next hd =>
    cases h
    exact opcode_of_decodeOperands hd
  · cases h

/-- An idle engine meets the invariant when RETRY and WBUF do. -/
theorem State.Inv.of_idle {s : State} (hq : s.seq = .idle) (hb : s.busy = false) (hr : s.retry ≤ s.cfg.maxRetries)
    (hw : s.wbuf.length = s.cfg.wdataMax) : s.Inv where
  busyIffNotIdle := by simp [hq, hb]
  notDoneWhileBusy := by simp [hb]
  latch := latchOk_iff.mpr (by simp [hb])
  retryBound := hr
  retryBelow := by simp [hq]
  wbufLength := hw

/-- Settles O37: the state after reset is idle, with RETRY 0 and a full WBUF. -/
theorem resetMeetsTheMachineInvariant : Obligations.ResetMeetsTheMachineInvariant :=
  State.Inv.of_idle rfl rfl (Nat.zero_le _) rfl

/-- The operation in progress, as the invariant reads it: all it reads but SEQ and RETRY. -/
structure Operation where
  busy : Bool
  done : Bool
  op : BitVec 3
  force : Bool
  a : Byte
  b : Byte
  wbuf : List Byte
  cfg : Config

def State.operation (s : State) : Operation :=
  ⟨s.busy, s.done, s.op, s.force, s.a, s.b, s.wbuf, s.cfg⟩

/-- The operation the latches hold does not depend on SEQ, RETRY or the result registers. -/
theorem latched_congr {s t : State} (h : t.operation = s.operation) : t.latched = s.latched := by
  simp only [State.operation, Operation.mk.injEq] at h
  obtain ⟨-, -, hop, hf, ha, hb, hw, -⟩ := h
  simp only [State.latched, State.sendBytes, hop, hf, ha, hb, hw]

/-- A step that keeps SEQ, RETRY and the operation keeps the invariant. -/
theorem State.Inv.congr {s t : State} (h : s.Inv) (same : t.operation = s.operation) (hq : t.seq = s.seq)
    (hr : t.retry = s.retry) : t.Inv := by
  have hl := latched_congr same
  simp only [State.operation, Operation.mk.injEq] at same
  obtain ⟨hbusy, hdone, -, -, -, -, hwbuf, hcfg⟩ := same
  exact
    { busyIffNotIdle := by rw [hbusy, hq, h.busyIffNotIdle]
      notDoneWhileBusy := by rw [hbusy, hdone]; exact h.notDoneWhileBusy
      latch := by simpa only [State.latchOk, hbusy, hl, hcfg, hq] using h.latch
      retryBound := by rw [hr, hcfg]; exact h.retryBound
      retryBelow := by rw [hr, hcfg, hq]; exact h.retryBelow
      wbufLength := by rw [hwbuf, hcfg]; exact h.wbufLength }

/-- A bus read keeps the invariant. -/
theorem State.Inv.busRead {s : State} (h : s.Inv) (reg n : Byte) : (s.busRead reg n).Inv :=
  h.congr (by simp [State.operation]) (by simp) (by simp)

/-- The sequencer states an operation's next engine step may lead to without ending it, by its operation code. -/
def nextStates (op : BitVec 3) : Seq → List Seq
  | .scInit => [.scCmd]
  | .scCmd => [.scPoll]
  | .scPoll => [.scPoll]
  | .pBase => if op = opPset then [.pHostin] else [.pCmd]
  | .pHostin => [.pCmd]
  | .pCmd => [.pPoll]
  | .pPoll => if op = opPset then [.pPoll] else [.pPoll, .pRead]
  | .roRead => [.roRead]
  | .idle => []
  | .wdXfer => []
  | .rrXfer => []
  | .pRead => []

/-- They are states of the same operation: its table of states (10_state.md R32), row by row. -/
theorem ownState_of_mem_nextStates {i : Instr} {q r : Seq} (h : ownState i q = true) (hr : r ∈ nextStates i.opcode q) :
    ownState i r = true := by
  cases i <;> cases q <;> simp_all [ownState, nextStates, Instr.opcode, opPset, opPquery]

/-- An operation that goes on keeps the invariant, if RETRY stays in bounds. -/
theorem State.Inv.continue {s t : State} (h : s.Inv) (same : t.operation = s.operation)
    (hq : t.seq ∈ nextStates s.op s.seq) (hr : t.retry ≤ s.cfg.maxRetries)
    (hp : t.seq = .scPoll → t.retry < s.cfg.maxRetries) : t.Inv := by
  have hne : s.seq ≠ .idle := by
    intro hi
    simp [hi, nextStates] at hq
  have hb : s.busy = true := by simp [h.busyIffNotIdle, hne]
  obtain ⟨i, hi, hl, ho⟩ := latchOk_iff.mp h.latch hb
  have hot : ownState i t.seq = true := ownState_of_mem_nextStates ho (op_eq_opcode_of_latched hi ▸ hq)
  have hit : t.latched = some i := (latched_congr same).trans hi
  simp only [State.operation, Operation.mk.injEq] at same
  obtain ⟨hbusy, hdone, -, -, -, -, hwbuf, hcfg⟩ := same
  exact
    { busyIffNotIdle := by simp [hbusy, hb, ne_idle_of_ownState hot]
      notDoneWhileBusy := fun _ => hdone.trans (h.notDoneWhileBusy hb)
      latch := latchOk_iff.mpr fun _ => ⟨i, hit, hcfg ▸ hl, hot⟩
      retryBound := hcfg ▸ hr
      retryBelow := hcfg ▸ hp
      wbufLength := by rw [hwbuf, hcfg, h.wbufLength] }

/-- Under the invariant a poll counts without wrapping (10_state.md R39). -/
theorem State.Inv.countPoll_eq {s : State} (h : s.Inv) (hq : s.seq = .scPoll) :
    countPoll s.cfg s.retry = s.retry + 1 :=
  countPoll_of_lt (h.retryBelow hq)

theorem State.Inv.countPoll_le {s : State} (h : s.Inv) (hq : s.seq = .scPoll) :
    countPoll s.cfg s.retry ≤ s.cfg.maxRetries :=
  h.countPoll_eq hq ▸ h.retryBelow hq

/-- An engine step keeps the invariant: it ends the operation, or goes on to a next state of it. -/
theorem State.Inv.engineStep {s : State} (h : s.Inv) : s.engineStep.Inv := by
  have status : s.statusRead.Inv := h.busRead s.cfg.regStatus 1
  have output : s.outputRead.Inv := (h.busRead (outRegister s.cfg s.oidx) 1).congr rfl rfl rfl
  have poll (hq : s.seq = .scPoll) : countPoll s.cfg s.retry ≤ s.statusRead.cfg.maxRetries := by
    simpa using h.countPoll_le hq
  exact s.engineStep_elim (fun _ t => t.Inv)
    (idle := fun _ => h)
    (nodata := fun _ _ => .of_idle rfl rfl status.retryBound status.wbufLength)
    (preheld := fun _ _ _ _ => .of_idle rfl rfl status.retryBound status.wbufLength)
    (initial := fun _ _ hq _ _ => status.continue rfl (by simp [hq, nextStates]) status.retryBound nofun)
    (noPolls := fun _ _ => .of_idle rfl rfl (Nat.zero_le _) h.wbufLength)
    (command := fun hq hm =>
      h.continue rfl (by simp [hq, nextStates]) (Nat.zero_le _) fun _ => Nat.pos_of_ne_zero hm)
    (pollEnd := fun _ hq => .of_idle rfl rfl (poll hq) status.wbufLength)
    (pollOn := fun hq hm =>
      status.continue rfl (by simp [hq, nextStates]) (poll hq) fun _ => Nat.lt_of_le_of_ne (poll hq) (by simpa using hm))
    (write := fun _ => .of_idle rfl rfl h.retryBound h.wbufLength)
    (read := fun _ => .of_idle rfl rfl (h.busRead s.a s.b).retryBound (h.busRead s.a s.b).wbufLength)
    (baseline := fun _ hq =>
      status.continue rfl (by by_cases ho : s.op = opPset <;> simp [hq, ho, nextStates]) status.retryBound
        (by by_cases ho : s.op = opPset <;> simp [ho]))
    (hostin := fun hq => h.continue rfl (by simp [hq, nextStates, State.pHostin]) h.retryBound nofun)
    (tagged := fun hq => h.continue rfl (by simp [hq, nextStates, State.pCmd]) h.retryBound nofun)
    (paramOn := fun _ hq =>
      status.continue rfl (by by_cases ho : s.op = opPset <;> simp [hq, ho, nextStates]) status.retryBound nofun)
    (paramEnd := fun _ _ => .of_idle rfl rfl status.retryBound status.wbufLength)
    (paramGo := fun hq ho => status.continue rfl (by simp [hq, ho, nextStates]) status.retryBound nofun)
    (value := fun _ => .of_idle rfl rfl
      (h.busRead s.cfg.regRespval 1).retryBound (h.busRead s.cfg.regRespval 1).wbufLength)
    (output := fun hq _ => output.continue rfl (by simp [hq, nextStates]) output.retryBound nofun)
    (assembled := fun _ _ _ _ => .of_idle rfl rfl output.retryBound output.wbufLength)
    (failed := fun _ _ _ _ _ => .of_idle rfl rfl output.retryBound output.wbufLength)

/-- An accepted Start keeps the invariant: its latches hold the operation, in its first state. -/
theorem State.Inv.accepted {s : State} (h : s.Inv) {i : Instr} (hl : legal s.cfg i = true) :
    (beginState i (s.accept i)).Inv := by
  have own : ownState i (beginState i (s.accept i)).seq = true := ownState_beginState i _
  exact
    { busyIffNotIdle := by simp [ne_idle_of_ownState own]
      notDoneWhileBusy := by simp
      latch := latchOk_iff.mpr fun _ => ⟨i, latched_beginState_accept s (legal_iff.mp hl).1, by simpa using hl, own⟩
      retryBound := by simpa using h.retryBound
      retryBelow := fun hq => absurd hq (seq_beginState_ne_scPoll i _)
      wbufLength := by simpa using wbuf_length_beginState_accept hl h.wbufLength }

/-- Settles O36: each kind of step keeps the invariant. -/
theorem stepKeepsTheMachineInvariant : Obligations.StepKeepsTheMachineInvariant := by
  intro s t hinv hstep
  cases stepKind_of_step hstep with
  | engine rest hh => exact (hinv.congr (t := { s with host := rest }) rfl rfl rfl).engineStep
  | reset rest hh => exact .of_idle rfl rfl (Nat.zero_le _) (by simp)
  | busyStart req rest hh hb => exact hinv.congr rfl rfl rfl
  | refused req rest hh hb hr => exact .of_idle rfl rfl hinv.retryBound hinv.wbufLength
  | accepted req rest i hh hb hl => exact (hinv.congr (t := { s with host := rest }) rfl rfl rfl).accepted hl

end Sys2Proof.Machine

/-! What an engine step does to RETRY and to the registers the host can read, and what follows for every step
(spec/10_state.md R31, R35, R39, R42). -/

namespace Sys2Proof.Machine

/-- An engine step keeps RETRY, clears it or counts a poll. -/
theorem engineStep_retry (s : State) :
    s.engineStep.retry = s.retry ∨ s.engineStep.retry = 0 ∨ s.engineStep.retry = countPoll s.cfg s.retry := by
  have status : s.statusRead.retry = s.retry := s.busRead_retry s.cfg.regStatus 1
  have output : s.outputRead.retry = s.retry := s.busRead_retry (outRegister s.cfg s.oidx) 1
  exact s.engineStep_elim (fun s t => t.retry = s.retry ∨ t.retry = 0 ∨ t.retry = countPoll s.cfg s.retry)
    (idle := fun _ => .inl rfl)
    (nodata := fun _ _ => .inl status)
    (preheld := fun _ _ _ _ => .inl status)
    (initial := fun _ _ _ _ _ => .inl status)
    (noPolls := fun _ _ => .inr (.inl rfl))
    (command := fun _ _ => .inr (.inl rfl))
    (pollEnd := fun _ _ => .inr (.inr rfl))
    (pollOn := fun _ _ => .inr (.inr rfl))
    (write := fun _ => .inl rfl)
    (read := fun _ => .inl (s.busRead_retry s.a s.b))
    (baseline := fun _ _ => .inl status)
    (hostin := fun _ => .inl rfl)
    (tagged := fun _ => .inl rfl)
    (paramOn := fun _ _ => .inl status)
    (paramEnd := fun _ _ => .inl status)
    (paramGo := fun _ _ => .inl status)
    (value := fun _ => .inl (s.busRead_retry s.cfg.regRespval 1))
    (output := fun _ _ => .inl output)
    (assembled := fun _ _ _ _ => .inl output)
    (failed := fun _ _ _ _ _ => .inl output)

/-- Every step keeps RETRY, clears it or counts a poll. -/
theorem step_retry {s t : State} (h : step s = .next t) :
    t.retry = s.retry ∨ t.retry = 0 ∨ t.retry = countPoll s.cfg s.retry := by
  cases stepKind_of_step h with
  | engine rest hh => exact engineStep_retry { s with host := rest }
  | reset rest hh => exact .inr (.inl rfl)
  | busyStart req rest hh hb => exact .inl rfl
  | refused req rest hh hb hr => exact .inl rfl
  | accepted req rest i hh hb hl => exact .inl (by simp)

/-- Settles O38: each value a step can leave in RETRY has RETRY_W bits, and O36 bounds it by MAX_RETRIES. -/
theorem retryNeverWraps : Obligations.RetryNeverWraps := by
  intro s t h
  have hcfg : t.cfg = s.cfg := (configurationIsStatic s t h).1
  refine ⟨fun hs => ?_, fun hinv => ?_, fun hinv hq => hinv.countPoll_eq hq⟩
  · rw [hcfg]
    obtain hr | hr | hr := step_retry h <;> rw [hr]
    · exact hs
    · exact Nat.two_pow_pos _
    · exact countPoll_lt _ _
  · have ht : t.Inv := stepKeepsTheMachineInvariant s t hinv h
    exact ⟨ht.retryBound, Nat.lt_of_le_of_lt ht.retryBound (maxRetries_lt _)⟩

/-- What the host can read of the engine: ENG_STATUS, whose fields are BUSY, DONE and FAULT (10_state.md R33), and the
results RES, IR and VIS. -/
structure View where
  busy : Bool
  done : Bool
  fault : BitVec 3
  res : Word16
  ir : Word16
  vis : Word16

def State.view (s : State) : View := ⟨s.busy, s.done, s.fault, s.res, s.ir, s.vis⟩

/-- What an engine step does to the host's view: nothing, or STATUS_NODATA, or the end of an operation, which writes no
result, RES, or RES with both channels (10_state.md R31, R35). -/
inductive State.EngineEffect (s t : State) : Prop where
  | goesOn (view : t.view = s.view)
  | raises (hq : s.seq = .scInit ∨ s.seq = .scPoll ∨ s.seq = .pBase ∨ s.seq = .pPoll)
      (hd : decodeStatus s.cfg s.answer = none) (result : t = s.statusRead.raise .statusNodata)
  | ends (idle : t.seq = .idle) (view : t.view = { s.view with busy := false, done := true })
  | endsWithRes (v : Word16) (idle : t.seq = .idle)
      (hq : s.seq = .scInit ∨ s.seq = .scCmd ∨ s.seq = .scPoll ∨ s.seq = .rrXfer ∨ s.seq = .pRead)
      (view : t.view = { s.view with busy := false, done := true, res := v })
  | endsWithChannels (v ir vis : Word16) (idle : t.seq = .idle) (hq : s.seq = .roRead) (ho : s.oidx = 3)
      (view : t.view = { s.view with busy := false, done := true, res := v, ir := ir, vis := vis })

/-- Every engine step has one of these effects. -/
theorem engineStep_effect (s : State) : s.EngineEffect s.engineStep := by
  have status : s.statusRead.view = s.view := by simp [State.view]
  have output : s.outputRead.view = s.view := by simp [State.view]
  exact s.engineStep_elim State.EngineEffect
    (idle := fun _ => .goesOn rfl)
    (nodata := fun hq hd => .raises hq hd rfl)
    (preheld := fun c hq _ _ => .endsWithRes (resultWord (.preheld c)) rfl (by simp [hq]) (by simp [State.view]))
    (initial := fun _ _ _ _ _ => .goesOn status)
    (noPolls := fun hq _ => .endsWithRes (resultWord .timeout) rfl (by simp [hq]) rfl)
    (command := fun _ _ => .goesOn rfl)
    (pollEnd := fun x hq => .endsWithRes (resultWord x) rfl (by simp [hq]) (by simp [State.view]))
    (pollOn := fun _ _ => .goesOn status)
    (write := fun _ => .ends rfl rfl)
    (read := fun hq => .endsWithRes (answerWord s.answer) rfl (by simp [hq]) (by simp [State.view, State.rrXfer]))
    (baseline := fun _ _ => .goesOn status)
    (hostin := fun _ => .goesOn rfl)
    (tagged := fun _ => .goesOn rfl)
    (paramOn := fun _ _ => .goesOn status)
    (paramEnd := fun _ _ => .ends rfl (by simp [State.view]))
    (paramGo := fun _ _ => .goesOn status)
    (value := fun hq => .endsWithRes (answerWord s.answer) rfl (by simp [hq]) (by simp [State.view, State.pRead]))
    (output := fun _ _ => .goesOn output)
    (assembled := fun ir vis hq ho => .endsWithChannels 0 ir vis rfl hq ho (by simp [State.view]))
    (failed := fun ir vis _ hq ho => .endsWithChannels 0xFFFF ir vis rfl hq ho (by simp [State.view]))

/-- When the engine moves, the host's next turn is none but a pass. -/
theorem eq_pass_of_engine {s : State} {turn : HostTurn} {rest more : List HostTurn}
    (hh : s.host = [] ∧ rest = [] ∨ s.host = .pass :: rest) (hs : s.host = turn :: more) : turn = .pass := by
  simp_all

/-- The flags after a step other than reset: kept; or those of an ended operation, unless a Start came while BUSY; or
those of an accepted Start. -/
theorem step_flags {s t : State} (h : step s = .next t) (hreset : ∀ rest, s.host ≠ .reset :: rest) :
    (t.busy = s.busy ∧ t.done = s.done) ∨
    (t.Ended ∧ t.seq = .idle ∧ (s.busy = true → ¬ ∃ req rest, s.host = .start req :: rest)) ∨
    (s.busy = false ∧ t.busy = true ∧ t.done = false ∧ ∃ req rest, s.host = .start req :: rest) := by
  cases stepKind_of_step h with
  | engine rest hh =>
    have noStart : ¬ ∃ req more, s.host = .start req :: more := fun ⟨_, _, hs⟩ => nomatch eq_pass_of_engine hh hs
    cases engineStep_effect { s with host := rest } with
    | goesOn view => exact .inl ⟨congrArg View.busy view, congrArg View.done view⟩
    | raises hq hd result => rw [result]; exact .inr (.inl ⟨⟨rfl, rfl⟩, rfl, fun _ => noStart⟩)
    | ends idle view
    | endsWithRes _ idle _ view
    | endsWithChannels _ _ _ idle _ _ view =>
      exact .inr (.inl ⟨⟨congrArg View.busy view, congrArg View.done view⟩, idle, fun _ => noStart⟩)
  | reset rest hh => exact absurd hh (hreset rest)
  | busyStart req rest hh hb => exact .inl ⟨by simp, by simp⟩
  | refused req rest hh hb hr => exact .inr (.inl ⟨⟨rfl, rfl⟩, rfl, by simp [hb]⟩)
  | accepted req rest i hh hb hl => exact .inr (.inr ⟨hb, by simp, by simp, req, rest, hh⟩)

/-- Settles O43: each clause holds of each of the three ways the flags can go. -/
theorem doneMarksTheEnd : Obligations.DoneMarksTheEnd := by
  intro s t _ h hreset
  obtain ⟨hb, hd⟩ | ⟨⟨hb, hd⟩, hq, hstart⟩ | ⟨hs, hb, hd, hstart⟩ := step_flags h hreset
  · simp_all
  · simp_all
  · simp_all

/-- Settles O44, by the effect of the engine step: no Start writes a result. -/
theorem resultRegistersWriters : Obligations.ResultRegistersWriters := by
  intro s t h hreset
  cases stepKind_of_step h with
  | engine rest hh =>
    cases engineStep_effect { s with host := rest } with
    | goesOn view
    | ends _ view =>
      simp only [State.view, View.mk.injEq] at view
      obtain ⟨-, -, -, hres, hir, hvis⟩ := view
      exact ⟨fun hne => absurd hres hne, fun hne => hne.elim (absurd hir) (absurd hvis)⟩
    | raises _ _ result => simp [result]
    | endsWithRes v _ hq view =>
      simp only [State.view, View.mk.injEq] at view
      obtain ⟨hb, hd, hf, -, hir, hvis⟩ := view
      exact ⟨fun _ => ⟨by tauto, hf, hb, hd⟩, fun hne => hne.elim (absurd hir) (absurd hvis)⟩
    | endsWithChannels v ir vis _ hq ho view =>
      simp only [State.view, View.mk.injEq] at view
      obtain ⟨hb, hd, hf, -, -, -⟩ := view
      exact ⟨fun _ => ⟨by tauto, hf, hb, hd⟩, fun _ => ⟨hq, ho, hf, hb, hd⟩⟩
  | reset rest hh => exact absurd hh (hreset rest)
  | busyStart req rest hh hb => simp
  | refused req rest hh hb hr => simp
  | accepted req rest i hh hb hl => simp

end Sys2Proof.Machine

/-! FAULT: each bit has its one cause, and only reset clears it (spec/10_state.md R34, 60_exceptions.md R282). -/

namespace Sys2Proof

/-- Bits 7:6 of field A, in the request word (R103 C7). -/
theorem aField_top (w : BitVec 32) : (aField w).extractLsb' 6 2 = w.extractLsb' 14 2 := by
  ext k hk
  have hk8 : 6 + k < 8 := by omega
  simp [aField, hk8, ← Nat.add_assoc]

/-- The operation codes are those that check C1 lets through (R101). -/
theorem opcode_cases : ∀ op : BitVec 3, op ≠ 0 → op ≠ 7 →
    op = opSendcmd ∨ op = opRdreg ∨ op = opWrdata ∨ op = opRdout ∨ op = opPset ∨ op = opPquery := by
  decide

/-- The checks C1 to C8 of 30_encoding.md R103 let a request through the decoder, as a legal operation. -/
theorem decode_legal_of_requestChecks {cfg : Config} {req : Request} (h : Claims.RequestChecks cfg req) :
    ∃ i, decode req = .ok i ∧ Machine.legal cfg i = true := by
  obtain ⟨⟨h0, h7⟩, ⟨hrsv1, hrsv0⟩, hforce, ⟨hsend, hwrite, hout, hquery⟩, hcount, hlen, hloc, haccess⟩ := h
  have hdec : decode req = decodeOperands (req.word.extractLsb' 0 3) (req.word.getLsbD 3) (aField req.word)
      (req.word.extractLsb' 16 8) req.payload := if_neg (by simp [rsv0Field, rsv1Field, hrsv0, hrsv1])
  rw [hdec]
  rw [← aField_top] at hloc
  change _ → aField req.word = 0 at hwrite
  change _ → aField req.word = 0 ∧ _ at hout
  generalize req.word.extractLsb' 0 3 = op at *
  generalize req.word.getLsbD 3 = force at *
  generalize aField req.word = a at *
  generalize req.word.extractLsb' 16 8 = b at *
  have noForce (hne : op ≠ opSendcmd) : force = false := by
    cases force
    · rfl
    · exact absurd (hforce rfl) hne
  obtain rfl | rfl | rfl | rfl | rfl | rfl := opcode_cases op h0 h7
  · obtain rfl := hsend rfl
    exact ⟨.sendcmd force a, by simp [decodeOperands], rfl⟩
  · obtain rfl := noForce (by decide)
    have hb : b ≠ 0#8 := by
      rintro rfl
      exact absurd (hcount rfl) (by decide)
    exact ⟨.rdreg a b, by simp [decodeOperands, opSendcmd, opRdreg, hb],
      by simp [Machine.legal, Instr.wellFormed, Machine.permitted, hb]⟩
  · obtain rfl := noForce (by decide)
    obtain rfl := hwrite rfl
    obtain ⟨hmax, hpay⟩ := hlen rfl
    have hbyte : b.toNat ≤ 255 := Nat.le_of_lt_succ b.isLt
    exact ⟨.wrdata req.payload, by simp [decodeOperands, opSendcmd, opRdreg, opWrdata, hpay],
      by simp [Machine.legal, Instr.wellFormed, Machine.permitted, hpay, hmax, hbyte]⟩
  · obtain rfl := noForce (by decide)
    obtain ⟨rfl, rfl⟩ := hout rfl
    exact ⟨.rdout, rfl, rfl⟩
  · obtain rfl := noForce (by decide)
    have hl := hloc (.inl rfl)
    exact ⟨.pset (a.extractLsb' 0 6) b,
      by simp [decodeOperands, opSendcmd, opRdreg, opWrdata, opRdout, opPset, hl], haccess (.inl rfl)⟩
  · obtain rfl := noForce (by decide)
    obtain rfl := hquery rfl
    have hl := hloc (.inr rfl)
    exact ⟨.pquery (a.extractLsb' 0 6),
      by simp [decodeOperands, opSendcmd, opRdreg, opWrdata, opRdout, opPset, opPquery, hl], haccess (.inr rfl)⟩

end Sys2Proof

namespace Sys2Proof.Machine

/-- What a fault is raised by, in the step from `s` to `t` (60_exceptions.md R282). -/
def FaultCause (s t : State) : EngineFault → Prop
  | .illegalRequest => s.busy = false ∧ ∃ req rest, s.host = .start req :: rest ∧ ¬ Claims.RequestChecks s.cfg req
  | .startWhileBusy => s.busy = true ∧ ∃ req rest, s.host = .start req :: rest
  | .statusNodata =>
    (s.seq = .scInit ∨ s.seq = .scPoll ∨ s.seq = .pBase ∨ s.seq = .pPoll) ∧
    s.answer = .nodata ∧ s.cfg.nodataStatusMode = .fault ∧ t.trace = s.trace ++ [.read s.cfg.regStatus 1 .nodata]

/-- What a step does to FAULT: reset clears it, any other step keeps it or raises a fault that has its cause. -/
inductive FaultEffect (s t : State) : Prop where
  | cleared (rest : List HostTurn) (hh : s.host = .reset :: rest) (fault : t.fault = 0)
  | kept (hreset : ∀ rest, s.host ≠ .reset :: rest) (fault : t.fault = s.fault)
  | raised (f : EngineFault) (hreset : ∀ rest, s.host ≠ .reset :: rest) (cause : FaultCause s t f)
      (fault : t.fault = s.fault ||| faultMask f)

/-- Every step has one of these effects. -/
theorem step_faultEffect {s t : State} (h : step s = .next t) : FaultEffect s t := by
  cases stepKind_of_step h with
  | engine rest hh =>
    have hreset : ∀ more, s.host ≠ .reset :: more := fun _ hs => nomatch eq_pass_of_engine hh hs
    cases engineStep_effect { s with host := rest } with
    | goesOn view
    | ends _ view
    | endsWithRes _ _ _ view
    | endsWithChannels _ _ _ _ _ _ view => exact .kept hreset (congrArg View.fault view)
    | raises hq hd result =>
      obtain ⟨ha, hm⟩ := decodeStatus_eq_none.mp hd
      have hanswer : s.answer = .nodata := ha
      refine .raised .statusNodata hreset ⟨hq, hanswer, hm, ?_⟩ (by simp [result])
      rw [← hanswer, result, State.raise_trace, State.busRead_trace]
      rfl
  | reset rest hh => exact .cleared rest hh rfl
  | busyStart req rest hh hb => exact .raised .startWhileBusy (by simp [hh]) ⟨hb, req, rest, hh⟩ rfl
  | refused req rest hh hb hr =>
    refine .raised .illegalRequest (by simp [hh]) ⟨hb, req, rest, hh, fun hc => ?_⟩ rfl
    obtain ⟨i, hd, hl⟩ := decode_legal_of_requestChecks hc
    simp [hr i hd] at hl
  | accepted req rest i hh hb hl => exact .kept (by simp [hh]) (by simp)

/-- Settles O39: a bit that appears is that of the fault raised. -/
theorem faultBitsAreSticky : Obligations.FaultBitsAreSticky := by
  intro s t h
  cases step_faultEffect h with
  | cleared rest hh fault => simp [fault, hh]
  | kept hreset fault => simp_all
  | raised f hreset cause fault =>
    have sticky : s.fault &&& (s.fault ||| faultMask f) = s.fault := by
      ext k hk
      simpa using Or.inl
    rw [fault, sticky]
    cases f <;> simp_all [FaultCause, faultMask]

end Sys2Proof.Machine

/-! The values of the state after reset (spec/10_state.md R45) and the layout of ENG_STATUS (R33). -/

namespace Sys2Proof.Machine

/-- The bits of ENG_STATUS (10_state.md R33): above FAULT's three they are 0. -/
theorem engStatus_getLsbD (s : State) (k : Nat) : s.engStatus.getLsbD k =
    if k = 0 then s.busy else if k = 1 then s.done else s.fault.getLsbD (k - 2) := by
  simp only [State.engStatus, BitVec.getLsbD_append, BitVec.getLsbD_ofBool, BitVec.getLsbD_zero]
  match k with
  | 0 => simp
  | 1 => simp
  | k + 2 => simpa using BitVec.lt_of_getLsbD

/-- Settles O21: each clause is one bit. -/
theorem engStatusLayout : Obligations.EngStatusLayout := by
  intro s
  refine ⟨engStatus_getLsbD s 0, engStatus_getLsbD s 1, engStatus_getLsbD s 2, engStatus_getLsbD s 3,
    engStatus_getLsbD s 4, fun k hk => ?_⟩
  rw [engStatus_getLsbD, if_neg (by omega), if_neg (by omega)]
  exact BitVec.getLsbD_of_ge _ _ (by omega)

/-- Settles O11: each register holds its value by definition. -/
theorem resetStateValues : Obligations.ResetStateValues :=
  ⟨rfl, rfl, rfl, rfl, rfl, rfl, rfl, rfl, rfl, rfl, rfl, rfl, rfl, rfl⟩

end Sys2Proof.Machine

/-! Two runs (spec/10_state.md R41): engines that agree outside their registers, and on the registers the operation in
progress will still read, go on so. -/

namespace Sys2Proof.Machine

/-- What an engine step reads or writes outside the registers, and the draw count. -/
structure Outside where
  cfg : Config
  trace : List Event
  host : List HostTurn
  answers : List Answer
  draws : Nat

def State.outside (s : State) : Outside := ⟨s.cfg, s.trace, s.host, s.answers, s.draws⟩

/-- The live registers: those the operation in progress will read before it writes them, by its sequencer state. -/
inductive Live where
  | idle
  | scInit (force : Bool) (code : Byte)
  | scCmd (code : Byte) (initCtr : Counter)
  | scPoll (initCtr : Counter) (retry : Nat)
  | wdXfer (bytes : List Byte)
  | rrXfer (reg count : Byte)
  | pBase (op : BitVec 3) (loc value : Byte)
  | pHostin (op : BitVec 3) (loc value : Byte) (priorCtr : Counter)
  | pCmd (op : BitVec 3) (loc : Byte) (priorCtr : Counter)
  | pPoll (op : BitVec 3) (priorCtr : Counter)
  | pRead
  | roRead (oidx : Fin 4) (answers : List Answer)

def State.live (s : State) : Live :=
  match s.seq with
  | .idle => .idle
  | .scInit => .scInit s.force s.a
  | .scCmd => .scCmd s.a s.initCtr
  | .scPoll => .scPoll s.initCtr s.retry
  | .wdXfer => .wdXfer s.sendBytes
  | .rrXfer => .rrXfer s.a s.b
  | .pBase => .pBase s.op s.a s.b
  | .pHostin => .pHostin s.op s.a s.b s.priorCtr
  | .pCmd => .pCmd s.op s.a s.priorCtr
  | .pPoll => .pPoll s.op s.priorCtr
  | .pRead => .pRead
  | .roRead => .roRead s.oidx (s.obuf.toList.take s.oidx.val)

/-- The live registers tell the sequencer state. -/
theorem seq_eq_of_live_eq {s u : State} (h : s.live = u.live) : u.seq = s.seq := by
  unfold State.live at h
  cases hs : s.seq <;> cases hu : u.seq <;> simp_all

section

variable {p q r : Prop} {s u : State}

/-- Two states that agree outside the registers, and on each of RES, IR and VIS where its premise holds: the premises are
that they agreed on it at the start of the run. -/
def Alike (p q r : Prop) (s u : State) : Prop :=
  s.outside = u.outside ∧ (p → s.res = u.res) ∧ (q → s.ir = u.ir) ∧ (r → s.vis = u.vis)

/-- The two engines agree: outside, in BUSY, and in what is live. -/
structure Agree (p q r : Prop) (s u : State) : Prop where
  alike : Alike p q r s u
  busy : s.busy = u.busy
  live : s.live = u.live

theorem Agree.cfg (h : Agree p q r s u) : s.cfg = u.cfg := congrArg Outside.cfg h.alike.1

theorem Agree.answer (h : Agree p q r s u) : s.answer = u.answer := by
  have ha : s.answers = u.answers := congrArg Outside.answers h.alike.1
  have hd : s.draws = u.draws := congrArg Outside.draws h.alike.1
  simp only [State.answer, ha, hd]

theorem Agree.busWrite (h : Agree p q r s u) (bytes : List Byte) : Agree p q r (s.busWrite bytes) (u.busWrite bytes) where
  alike := by simpa [Alike, State.outside] using h.alike
  busy := h.busy
  live := h.live

theorem live_busRead (s : State) (reg n : Byte) : (s.busRead reg n).live = s.live := by
  simp [State.live, State.sendBytes]

theorem Agree.busRead (h : Agree p q r s u) (reg n : Byte) : Agree p q r (s.busRead reg n) (u.busRead reg n) where
  alike := by
    have hr := h.alike
    simp_all [Alike, State.outside, h.answer]
  busy := by simpa using h.busy
  live := by simpa only [live_busRead] using h.live

/-- An operation that ends leaves nothing live. -/
theorem Alike.finish (h : Alike p q r s u) : Agree p q r s.finish u.finish :=
  ⟨h, rfl, rfl⟩

theorem Alike.finishWith (h : Alike p q r s u) (v : Word16) : Agree p q r (s.finishWith v) (u.finishWith v) := by
  obtain ⟨ho, -, hir, hvis⟩ := h
  exact ⟨⟨ho, fun _ => rfl, hir, hvis⟩, rfl, rfl⟩

/-- Two status reads agree if what follows them does. -/
theorem Agree.readStatus {next : Counter → Bool → State → State} (h : Agree p q r s u)
    (hn : ∀ c e t v, Agree p q r t v → t.seq = s.seq → Agree p q r (next c e t) (next c e v)) :
    Agree p q r (s.readStatus next) (u.readStatus next) := by
  have hr := h.busRead s.cfg.regStatus 1
  unfold State.readStatus
  rw [← h.answer, ← h.cfg]
  cases decodeStatus s.cfg s.answer with
  | none => exact ⟨hr.alike, rfl, rfl⟩
  | some fields => exact hn fields.1 fields.2 _ _ hr (s.busRead_seq _ _)

/-! One lemma for each sequencer state: engines that agree on what is live there make steps that agree. What a step writes
beside the live registers is unfolded by definition (`by exact`, which is checked once both next states are known). -/

theorem Agree.scInit (h : Agree p q r s u) (hs : s.seq = .scInit) : Agree p q r s.scInit u.scInit := by
  refine h.readStatus fun c e t v h' hq => ?_
  have hl := h'.live
  simp only [State.live, seq_eq_of_live_eq h'.live, hq, hs, Live.scInit.injEq] at hl
  obtain ⟨hf, ha⟩ := hl
  rw [hf]
  split
  · exact Alike.finishWith (by exact h'.alike) _
  · exact ⟨h'.alike, h'.busy, congrArg (Live.scCmd · c) ha⟩

theorem Agree.scCmd (h : Agree p q r s u) (hs : s.seq = .scCmd) : Agree p q r s.scCmd u.scCmd := by
  have hl := h.live
  simp only [State.live, seq_eq_of_live_eq h.live, hs, Live.scCmd.injEq] at hl
  obtain ⟨ha, hc⟩ := hl
  have h' := h.busWrite (commandPacket s.cfg s.a)
  unfold State.scCmd
  rw [← h.cfg, ← ha]
  dsimp only
  split
  · exact Alike.finishWith (by exact h'.alike) _
  · exact ⟨h'.alike, h'.busy, congrArg (Live.scPoll · 0) hc⟩

theorem Agree.scPoll (h : Agree p q r s u) (hs : s.seq = .scPoll) : Agree p q r s.scPoll u.scPoll := by
  refine h.readStatus fun c e t v h' hq => ?_
  have hl := h'.live
  simp only [State.live, seq_eq_of_live_eq h'.live, hq, hs, Live.scPoll.injEq] at hl
  obtain ⟨hc, hr⟩ := hl
  have hcount : countPoll t.cfg t.retry = countPoll v.cfg v.retry := by rw [h'.cfg, hr]
  have hmax : t.cfg.maxRetries = v.cfg.maxRetries := by rw [h'.cfg]
  dsimp only
  rw [hcount, hc, hmax]
  split_ifs
  · exact Alike.finishWith (by exact h'.alike) _
  · exact Alike.finishWith (by exact h'.alike) _
  · exact Alike.finishWith (by exact h'.alike) _
  · exact ⟨h'.alike, h'.busy, rfl⟩

theorem Agree.wdXfer (h : Agree p q r s u) (hs : s.seq = .wdXfer) : Agree p q r s.wdXfer u.wdXfer := by
  have hl := h.live
  simp only [State.live, seq_eq_of_live_eq h.live, hs, Live.wdXfer.injEq] at hl
  rw [State.wdXfer, State.wdXfer, ← hl]
  exact (h.busWrite _).alike.finish

theorem Agree.rrXfer (h : Agree p q r s u) (hs : s.seq = .rrXfer) : Agree p q r s.rrXfer u.rrXfer := by
  have hl := h.live
  simp only [State.live, seq_eq_of_live_eq h.live, hs, Live.rrXfer.injEq] at hl
  obtain ⟨ha, hn⟩ := hl
  rw [State.rrXfer, State.rrXfer, ← ha, ← hn, ← h.answer]
  exact (h.busRead _ _).alike.finishWith _

theorem Agree.pBase (h : Agree p q r s u) (hs : s.seq = .pBase) : Agree p q r s.pBase u.pBase := by
  refine h.readStatus fun c e t v h' hq => ?_
  have hl := h'.live
  simp only [State.live, seq_eq_of_live_eq h'.live, hq, hs, Live.pBase.injEq] at hl
  obtain ⟨ho, ha, hv⟩ := hl
  rw [ho]
  refine ⟨h'.alike, h'.busy, ?_⟩
  by_cases hset : v.op = opPset <;> simp [State.live, hset, ha, hv]

theorem Agree.pHostin (h : Agree p q r s u) (hs : s.seq = .pHostin) : Agree p q r s.pHostin u.pHostin := by
  have hl := h.live
  simp only [State.live, seq_eq_of_live_eq h.live, hs, Live.pHostin.injEq] at hl
  obtain ⟨ho, ha, hv, hc⟩ := hl
  have h' := h.busWrite (hostinPacket s.cfg s.b)
  rw [State.pHostin, State.pHostin, ← h.cfg, ← hv]
  exact ⟨h'.alike, h'.busy, by simp [State.live, ho, ha, hc]⟩

theorem Agree.pCmd (h : Agree p q r s u) (hs : s.seq = .pCmd) : Agree p q r s.pCmd u.pCmd := by
  have hl := h.live
  simp only [State.live, seq_eq_of_live_eq h.live, hs, Live.pCmd.injEq] at hl
  obtain ⟨ho, ha, hc⟩ := hl
  have h' := h.busWrite (commandPacket s.cfg (if s.op = opPset then psetCode s.a else pqueryCode s.a))
  rw [State.pCmd, State.pCmd, ← h.cfg, ← ho, ← ha]
  exact ⟨h'.alike, h'.busy, by simp [State.live, ho, hc]⟩

theorem Agree.pPoll (h : Agree p q r s u) (hs : s.seq = .pPoll) : Agree p q r s.pPoll u.pPoll := by
  refine h.readStatus fun c e t v h' hq => ?_
  have hl := h'.live
  simp only [State.live, seq_eq_of_live_eq h'.live, hq, hs, Live.pPoll.injEq] at hl
  obtain ⟨ho, hc⟩ := hl
  have hmode : t.cfg.paramBaseline = v.cfg.paramBaseline := by rw [h'.cfg]
  rw [ho, hc, hmode]
  split_ifs
  · cases v.cfg.paramBaseline
    · exact ⟨h'.alike, h'.busy, rfl⟩
    · exact ⟨h'.alike, h'.busy, rfl⟩
  · exact Alike.finish (by exact h'.alike)
  · exact ⟨h'.alike, h'.busy, rfl⟩

theorem Agree.pRead (h : Agree p q r s u) : Agree p q r s.pRead u.pRead := by
  rw [State.pRead, State.pRead, ← h.cfg, ← h.answer]
  exact (h.busRead _ _).alike.finishWith _

/-- With all four answers read, RDOUT ends alike (43_output_reading.md R262, R263). -/
theorem Alike.roEnd (h : Alike p q r s u) (ho : s.obuf = u.obuf) : Agree p q r s.roEnd u.roEnd := by
  have hd : s.draws = u.draws := congrArg Outside.draws h.1
  unfold State.roEnd
  rw [← ho, ← hd]
  split
  · exact ⟨⟨congrArg (fun o => { o with draws := s.draws }) h.1, fun _ => rfl, fun _ => rfl, fun _ => rfl⟩, rfl, rfl⟩
  · exact ⟨⟨congrArg (fun o => { o with draws := s.draws + 2 }) h.1, fun _ => rfl, fun _ => rfl, fun _ => rfl⟩, rfl, rfl⟩

/-- RO_READ's read appends its answer to those in OBUF before OIDX (43_output_reading.md R261). -/
theorem outputRead_answers (s : State) :
    s.outputRead.obuf.toList.take (s.oidx.val + 1) = s.obuf.toList.take s.oidx.val ++ [s.answer] := by
  simp [Vector.toList_set, List.take_add_one, List.take_set, List.set_eq_of_length_le]

/-- An output read of the same register agrees outside OBUF. -/
theorem Agree.outputRead (h : Agree p q r s u) (ho : s.oidx = u.oidx) :
    Alike p q r s.outputRead u.outputRead ∧ s.outputRead.busy = u.outputRead.busy := by
  have h' := h.busRead (outRegister s.cfg s.oidx) 1
  have hreg : outRegister u.cfg u.oidx = outRegister s.cfg s.oidx := by rw [h.cfg, ho]
  rw [State.outputRead, State.outputRead, hreg]
  exact ⟨h'.alike, h'.busy⟩

theorem Agree.roRead (h : Agree p q r s u) (hs : s.seq = .roRead) : Agree p q r s.roRead u.roRead := by
  have hl := h.live
  simp only [State.live, seq_eq_of_live_eq h.live, hs, Live.roRead.injEq] at hl
  obtain ⟨ho, hbuf⟩ := hl
  obtain ⟨halike, hbusy⟩ := h.outputRead ho
  have hnext : s.outputRead.obuf.toList.take (s.oidx.val + 1) = u.outputRead.obuf.toList.take (s.oidx.val + 1) := by
    rw [outputRead_answers, hbuf, h.answer, ho, outputRead_answers]
  by_cases hlt : s.oidx < 3
  · have hval : (s.oidx + 1).val = s.oidx.val + 1 := Fin.val_add_one_of_lt hlt
    rw [State.roRead, if_pos hlt, State.roRead, if_pos (ho ▸ hlt)]
    refine ⟨halike, hbusy, ?_⟩
    show Live.roRead (s.oidx + 1) (s.outputRead.obuf.toList.take (s.oidx + 1).val) =
      Live.roRead (u.oidx + 1) (u.outputRead.obuf.toList.take (u.oidx + 1).val)
    rw [← ho, hval, hnext]
  · have h3 : s.oidx.val + 1 = 4 := by omega
    rw [State.roRead, if_neg hlt, State.roRead, if_neg (ho ▸ hlt)]
    refine halike.roEnd (Vector.toList_inj.mp ?_)
    simpa [h3, List.take_of_length_le] using hnext

/-- Engines that agree make steps that agree (10_state.md R41). -/
theorem Agree.engineStep (h : Agree p q r s u) : Agree p q r s.engineStep u.engineStep := by
  have hu := seq_eq_of_live_eq h.live
  cases hs : s.seq <;> simp only [State.engineStep, hs, hu]
  case idle => exact h
  case scInit => exact h.scInit hs
  case scCmd => exact h.scCmd hs
  case scPoll => exact h.scPoll hs
  case wdXfer => exact h.wdXfer hs
  case rrXfer => exact h.rrXfer hs
  case pBase => exact h.pBase hs
  case pHostin => exact h.pHostin hs
  case pCmd => exact h.pCmd hs
  case pPoll => exact h.pPoll hs
  case pRead => exact h.pRead
  case roRead => exact h.roRead hs

/-- The host's plan is no register. -/
theorem Agree.withHost (h : Agree p q r s u) (rest : List HostTurn) :
    Agree p q r { s with host := rest } { u with host := rest } := by
  obtain ⟨⟨ho, hres⟩, hb, hl⟩ := h
  exact ⟨⟨congrArg (fun o => { o with host := rest }) ho, hres⟩, hb, hl⟩

/-- Equal draw counts give equal free values (log 4, 22). -/
theorem Agree.resetAction (h : Agree p q r s u) : Agree p q r s.resetAction u.resetAction := by
  have hd : s.draws = u.draws := congrArg Outside.draws h.alike.1
  exact ⟨⟨congrArg (fun o => { o with draws := o.draws + 7 + o.cfg.wdataMax }) h.alike.1,
    by simp [hd], by simp [hd], by simp [hd]⟩, rfl, rfl⟩

/-- What an accepted Start makes live comes from the request alone (60_exceptions.md R288). -/
theorem live_beginState_accept {i : Instr} (s u : State) (hw : i.wellFormed = true) :
    (beginState i (s.accept i)).live = (beginState i (u.accept i)).live := by
  cases i with
  | wrdata payload =>
    exact congrArg Live.wdXfer
      ((sendBytes_beginState_accept s hw rfl).trans (sendBytes_beginState_accept u hw rfl).symm)
  | _ => rfl

theorem Agree.accepted (h : Agree p q r s u) {i : Instr} (hw : i.wellFormed = true) :
    Agree p q r (beginState i (s.accept i)) (beginState i (u.accept i)) where
  alike := by cases i <;> exact h.alike
  busy := by simp
  live := live_beginState_accept s u hw

/-- Engines that agree make steps that agree, whatever the host does. -/
theorem Agree.step (h : Agree p q r s u) : ∃ s' u', step s = .next s' ∧ step u = .next u' ∧ Agree p q r s' u' := by
  have hhost : s.host = u.host := congrArg Outside.host h.alike.1
  rcases hs : s.host with _ | ⟨turn, rest⟩
  · exact ⟨_, _, step_of_silent hs, step_of_silent (hhost ▸ hs), h.engineStep⟩
  have hu : u.host = turn :: rest := hhost ▸ hs
  have h' := h.withHost rest
  cases turn with
  | pass => exact ⟨_, _, step_of_pass hs, step_of_pass hu, h'.engineStep⟩
  | reset => exact ⟨_, _, step_of_reset hs, step_of_reset hu, h'.resetAction⟩
  | start req =>
    cases hb : s.busy with
    | true =>
      exact ⟨_, _, step_of_busyStart hs hb, step_of_busyStart hu (h.busy ▸ hb), h'.alike, h'.busy, h'.live⟩
    | false =>
      by_cases hd : ∃ i, decode req = .ok i ∧ legal s.cfg i = true
      · obtain ⟨i, hd, hl⟩ := hd
        exact ⟨_, _, step_of_accepted hs hb hd hl, step_of_accepted hu (h.busy ▸ hb) hd (h.cfg ▸ hl),
          h'.accepted (legal_iff.mp hl).1⟩
      · have hr : ∀ i, decode req = .ok i → legal s.cfg i = false := by simpa using hd
        exact ⟨_, _, step_of_refused hs hb hr, step_of_refused hu (h.busy ▸ hb) (h.cfg ▸ hr), h'.alike, rfl, rfl⟩

/-- They agree after any number of steps. -/
theorem Agree.run (h : Agree p q r s u) (n : Nat) :
    ∃ s' u', run n s = .next s' ∧ run n u = .next u' ∧ Agree p q r s' u' := by
  induction n generalizing s u with
  | zero => exact ⟨s, u, rfl, rfl, h⟩
  | succ n ih =>
    obtain ⟨s₁, u₁, hs, hu, h₁⟩ := h.step
    obtain ⟨s', u', hs', hu', h'⟩ := ih h₁
    exact ⟨s', u', (run_succ n hs).trans hs', (run_succ n hu).trans hu', h'⟩

end

/-- Settles O51: idle engines have nothing live. -/
theorem staleRegistersAreNotObserved : Obligations.StaleRegistersAreNotObserved := by
  intro s u hsq hsb huq hub hcfg hhost hanswers hdraws htrace n
  have h : Agree (s.res = u.res) (s.ir = u.ir) (s.vis = u.vis) s u :=
    ⟨⟨by simp [State.outside, *], id, id, id⟩, hsb.trans hub.symm, by simp [State.live, hsq, huq]⟩
  obtain ⟨s', u', hs, hu, ⟨hout, hres, hir, hvis⟩, hbusy, -⟩ := h.run n
  exact ⟨s', u', hs, hu, congrArg Outside.trace hout, hbusy, congrArg Outside.answers hout, hres, hir, hvis⟩

end Sys2Proof.Machine

/-! The decoder and the encoder of request words are inverse to each other (spec/30_encoding.md R100 to R104). -/

namespace Sys2Proof

/-- A word whose reserved fields are 0 is its other four fields packed (30_encoding.md R100). -/
theorem packWord_fields {w : BitVec 32} (h0 : rsv0Field w = 0) (h1 : rsv1Field w = 0) :
    packWord (opField w) (forceField w) (aField w) (bField w) = w := by
  apply BitVec.eq_of_getLsbD_eq
  intro k hk
  have low (j : Nat) (hj : j < 4) : w.getLsbD (4 + j) = false := by
    simpa [rsv0Field, hj] using congrArg (BitVec.getLsbD · j) h0
  have high (j : Nat) (hj : j < 8) : w.getLsbD (24 + j) = false := by
    simpa [rsv1Field, hj] using congrArg (BitVec.getLsbD · j) h1
  rw [packWord_getLsbD]
  split_ifs with h3 h4 h8 h16 h24
  · simp [opField, h3]
  · obtain rfl : k = 3 := by omega
    rfl
  · rw [← low (k - 4) (by omega), Nat.add_sub_cancel' (by omega)]
  · have ha : k - 8 < 8 := by omega
    simp [aField, ha, Nat.add_sub_cancel' (show 8 ≤ k by omega)]
  · have hb : k - 16 < 8 := by omega
    simp [bField, hb, Nat.add_sub_cancel' (show 16 ≤ k by omega)]
  · rw [← high (k - 24) (by omega), Nat.add_sub_cancel' (by omega)]

/-- A field A with 00 in bits 7:6 is its location widened (R103 C7). -/
theorem zeroExtend_location {a : Byte} (h : a.extractLsb' 6 2 = 0) : (a.extractLsb' 0 6).zeroExtend 8 = a := by
  apply BitVec.eq_of_getLsbD_eq
  intro k hk
  have top (j : Nat) (hj : j < 2) : a.getLsbD (6 + j) = false := by
    simpa [hj] using congrArg (BitVec.getLsbD · j) h
  by_cases h6 : k < 6
  · simp [h6, hk]
  · rw [← Nat.add_sub_cancel' (show 6 ≤ k by omega), top (k - 6) (by omega)]
    simp

/-- The operation the decoder reads is well formed, and the fields and WRDATA's payload are its own (R102). -/
theorem operands_of_decodeOperands {op : BitVec 3} {f : Bool} {a b : Byte} {bytes : List Byte} {i : Instr}
    (h : decodeOperands op f a b bytes = .ok i) :
    i.wellFormed = true ∧ f = i.forceBit ∧ a = i.operandA ∧ b = i.operandB ∧
      (i.opcode = opWrdata → bytes = i.payloadBytes) := by
  unfold decodeOperands at h
  split_ifs at h with _ hb _ hf hb _ hf ha hlen _ hf hab _ hf hloc _ hf hloc hb <;> cases h
  · exact ⟨rfl, rfl, rfl, not_not.mp hb, nofun⟩
  · exact ⟨decide_eq_true hb, eq_false_of_ne_true hf, rfl, rfl, nofun⟩
  · rw [not_not] at ha hlen
    have hbyte : bytes.length ≤ 255 := hlen ▸ Nat.le_of_lt_succ b.isLt
    exact ⟨decide_eq_true hbyte, eq_false_of_ne_true hf, ha, by simp [Instr.operandB, hlen], fun _ => rfl⟩
  · obtain ⟨ha, hb⟩ : a = 0 ∧ b = 0 := by simpa using hab
    exact ⟨rfl, eq_false_of_ne_true hf, ha, hb, nofun⟩
  · exact ⟨rfl, eq_false_of_ne_true hf, (zeroExtend_location (not_not.mp hloc)).symm, rfl, nofun⟩
  · exact ⟨rfl, eq_false_of_ne_true hf, (zeroExtend_location (not_not.mp hloc)).symm, not_not.mp hb, nofun⟩

/-- A request that decodes has 0 in the reserved fields (R103 C2), and its operation is read from the others. -/
theorem decodeOperands_of_decode {req : Request} {i : Instr} (h : decode req = .ok i) :
    rsv0Field req.word = 0 ∧ rsv1Field req.word = 0 ∧
      decodeOperands (opField req.word) (forceField req.word) (aField req.word) (bField req.word) req.payload =
        .ok i := by
  unfold decode at h
  split_ifs at h with hr
  obtain ⟨h0, h1⟩ := not_or.mp hr
  exact ⟨not_not.mp h0, not_not.mp h1, h⟩

/-- A request decodes to the operation whose encoding it is, and to no other. Only WRDATA's payload is looked at. -/
theorem decode_eq_ok_iff {req : Request} {i : Instr} : decode req = .ok i ↔
    i.wellFormed = true ∧ (encode i).word = req.word ∧ (i.opcode = opWrdata → req.payload = i.payloadBytes) := by
  constructor
  · intro h
    obtain ⟨h0, h1, h⟩ := decodeOperands_of_decode h
    obtain ⟨hw, hf, ha, hb, hp⟩ := operands_of_decodeOperands h
    have hword := packWord_fields h0 h1
    rw [opcode_of_decodeOperands h, hf, ha, hb] at hword
    exact ⟨hw, hword, hp⟩
  · rintro ⟨hw, hword, hp⟩
    simp [decode, ← hword, decodeOperands_of_wellFormed hw hp]

/-- Settles O1: the encoding of an operation carries its payload. -/
theorem decodeAfterEncode : Obligations.DecodeAfterEncode :=
  fun _ hw => decode_eq_ok_iff.mpr ⟨hw, rfl, fun _ => rfl⟩

/-- Settles O2: the other direction, with WRDATA's payload in the encoding. -/
theorem encodeAfterDecode : Obligations.EncodeAfterDecode := by
  intro req i h
  obtain ⟨hw, hword, hp⟩ := decode_eq_ok_iff.mp h
  exact ⟨hw, hword, fun hop => (hp hop).symm⟩

end Sys2Proof

/-! The rows of spec/opcode_table.json: a row's mask keeps OP, the reserved fields, and what the row's operation holds 0
of F, A and B. -/

namespace Sys2Proof

/-- A row's mask, from what it keeps of F, A and B. -/
def rowMask (f : Bool) (a b : Byte) : BitVec 32 := 0xFF#8 ++ b ++ a ++ 0xF#4 ++ BitVec.ofBool f ++ 0b111#3

/-- A row's mask acts on F, A and B field by field. -/
theorem packWord_and_rowMask (op : BitVec 3) (f fm : Bool) (a am b bm : Byte) :
    packWord op f a b &&& rowMask fm am bm = packWord op (f && fm) (a &&& am) (b &&& bm) := by
  have hop : op &&& 0b111#3 = op := BitVec.and_allOnes
  calc packWord op f a b &&& rowMask fm am bm
    _ = (0#8 &&& 0xFF#8) ++ (b &&& bm) ++ (a &&& am) ++ (0#4 &&& 0xF#4) ++ (BitVec.ofBool f &&& BitVec.ofBool fm) ++
        (op &&& 0b111#3) := by
      simp only [← BitVec.and_append]
      rfl
    _ = packWord op (f && fm) (a &&& am) (b &&& bm) := by
      rw [hop, BitVec.ofBool_and_ofBool]
      rfl

/-- A widened location has no bit under C7's two (30_encoding.md R103). -/
theorem zeroExtend_and_locationTop (loc : BitVec 6) : loc.zeroExtend 8 &&& 0xC0 = 0 := by
  have hmask : (0xC0 : Byte) = 0b11#2 ++ 0#6 := rfl
  have hloc : loc.zeroExtend 8 = 0#2 ++ loc := BitVec.setWidth_eq_append (by decide)
  rw [hmask, hloc, BitVec.and_append]
  simp

/-- An operation's word matches the operation's row: what the mask keeps of F, A and B is 0. -/
theorem word_matches_own_row (i : Instr) :
    (encode i).word &&& (Claims.tableRow (Claims.rowOf i)).2 = (Claims.tableRow (Claims.rowOf i)).1 := by
  cases i with
  | sendcmd force code =>
    exact (packWord_and_rowMask opSendcmd force false code 0#8 0 0xFF).trans
      (by rw [Bool.and_false, BitVec.and_zero]; rfl)
  | rdreg reg count =>
    exact (packWord_and_rowMask opRdreg false true reg 0#8 count 0#8).trans
      (by rw [BitVec.and_zero, BitVec.and_zero]; rfl)
  | wrdata payload =>
    exact (packWord_and_rowMask opWrdata false true 0 0xFF (BitVec.ofNat 8 payload.length) 0#8).trans
      (by rw [BitVec.and_zero]; rfl)
  | rdout => rfl
  | pset loc value =>
    exact (packWord_and_rowMask opPset false true (loc.zeroExtend 8) 0xC0 value 0#8).trans
      (by rw [zeroExtend_and_locationTop, BitVec.and_zero]; rfl)
  | pquery loc =>
    exact (packWord_and_rowMask opPquery false true (loc.zeroExtend 8) 0xC0 0 0xFF).trans
      (by rw [zeroExtend_and_locationTop]; rfl)

theorem opField_tableRow_mask : ∀ k : Fin 6, opField (Claims.tableRow k).2 = BitVec.allOnes 3 := by decide

/-- A word that matches a row has the row's operation code: every mask keeps OP whole. -/
theorem opField_of_matches_row {w : BitVec 32} {k : Fin 6}
    (h : w &&& (Claims.tableRow k).2 = (Claims.tableRow k).1) : opField w = opField (Claims.tableRow k).1 := by
  have hand : opField (w &&& (Claims.tableRow k).2) = opField w &&& opField (Claims.tableRow k).2 :=
    BitVec.extractLsb'_and
  rw [← h, hand, opField_tableRow_mask, BitVec.and_allOnes]

/-- No two rows share an operation code. -/
theorem tableRow_opcode_injective :
    ∀ k l : Fin 6, opField (Claims.tableRow k).1 = opField (Claims.tableRow l).1 → k = l := by
  decide

/-- Settles O5: two rows that match one word have its operation code, so they are one row. -/
theorem decodedWordMatchesOneTableRow : Obligations.DecodedWordMatchesOneTableRow := by
  intro req i k h
  obtain ⟨-, hword, -⟩ := decode_eq_ok_iff.mp h
  have own := hword ▸ word_matches_own_row i
  constructor
  · intro hk
    exact tableRow_opcode_injective k _ ((opField_of_matches_row hk).symm.trans (opField_of_matches_row own))
  · rintro rfl
    exact own

end Sys2Proof

/-! Which requests are accepted, and with what effect (spec/30_encoding.md R103, 60_exceptions.md R283, R288). -/

namespace Sys2Proof

/-- A request that decodes has 0 in the reserved fields and its operation in the others. -/
theorem fields_of_decode {req : Request} {i : Instr} (h : decode req = .ok i) :
    rsv1Field req.word = 0 ∧ rsv0Field req.word = 0 ∧ opField req.word = i.opcode ∧
      forceField req.word = i.forceBit ∧ aField req.word = i.operandA ∧ bField req.word = i.operandB := by
  obtain ⟨-, hword, -⟩ := decode_eq_ok_iff.mp h
  simp [← hword]

/-- A request for a legal operation passes the checks C1 to C8. -/
theorem requestChecks_of_decode_legal {cfg : Config} {req : Request} {i : Instr} (hd : decode req = .ok i)
    (hl : Machine.legal cfg i = true) : Claims.RequestChecks cfg req := by
  obtain ⟨hrsv1 : req.word.extractLsb' 24 8 = 0, hrsv0 : req.word.extractLsb' 4 4 = 0,
    hop : req.word.extractLsb' 0 3 = _, hf : req.word.getLsbD 3 = _, ha : req.word.extractLsb' 8 8 = _,
    hb : req.word.extractLsb' 16 8 = _⟩ := fields_of_decode hd
  have hloc : req.word.extractLsb' 14 2 = i.operandA.extractLsb' 6 2 := by rw [← aField_top, aField, ha]
  obtain ⟨hw, hp⟩ := Machine.legal_iff.mp hl
  obtain ⟨-, -, hpay⟩ := decode_eq_ok_iff.mp hd
  simp only [Claims.RequestChecks, hrsv1, hrsv0, hop, hf, ha, hb, hloc]
  cases i with
  | sendcmd force code => simp [Instr.opcode, Instr.operandB, opSendcmd]
  | rdreg reg count =>
    have hc : count ≠ 0 := of_decide_eq_true hw
    have h1 : 1 ≤ count.toNat := Nat.one_le_iff_ne_zero.mpr fun h0 => hc (BitVec.eq_of_toNat_eq h0)
    simp [Instr.opcode, Instr.operandB, Instr.forceBit, opRdreg, h1]
  | wrdata payload =>
    have hl : payload.length ≤ 255 := of_decide_eq_true hw
    have hmax : payload.length ≤ cfg.wdataMax := of_decide_eq_true hp
    have hb : payload.length % 256 = payload.length := Nat.mod_eq_of_lt (by omega)
    simp [Instr.opcode, Instr.operandA, Instr.operandB, Instr.forceBit, Instr.payloadBytes, opWrdata, hpay rfl, hb,
      hmax]
  | rdout => simp [Instr.opcode, Instr.operandA, Instr.operandB, Instr.forceBit, opRdout]
  | pset loc value =>
    have haccess : cfg.hasParamAccess = true := hp
    simp [Instr.opcode, Instr.operandA, Instr.forceBit, opPset, locationTop_zeroExtend, haccess]
  | pquery loc =>
    have haccess : cfg.hasParamAccess = true := hp
    simp [Instr.opcode, Instr.operandA, Instr.operandB, Instr.forceBit, opPquery, locationTop_zeroExtend, haccess]

end Sys2Proof

namespace Sys2Proof.Machine

/-- A request passes the checks exactly when the decoder reads a legal operation from it. -/
theorem requestChecks_iff {cfg : Config} {req : Request} :
    Claims.RequestChecks cfg req ↔ ∃ i, decode req = .ok i ∧ legal cfg i = true :=
  ⟨decode_legal_of_requestChecks, fun ⟨_, hd, hl⟩ => requestChecks_of_decode_legal hd hl⟩

/-- An accepted Start writes its latches, the flags, SEQ, WBUF and OIDX, and nothing else. -/
theorem beginState_accept_eq (i : Instr) (s : State) : beginState i (s.accept i) = { s with
    op := i.opcode, force := i.forceBit, a := i.operandA, b := i.operandB, busy := true, done := false
    seq := Claims.firstSeq i.opcode, wbuf := (beginState i s).wbuf, oidx := (beginState i s).oidx } := by
  cases i <;> rfl

/-- WRDATA's Start puts the payload in WBUF, and keeps the bytes after it (log 16). -/
theorem beginState_wbuf_of_wrdata {i : Instr} (s : State) (h : i.opcode = opWrdata) :
    (beginState i s).wbuf = i.payloadBytes ++ s.wbuf.drop i.payloadBytes.length := by
  cases i with
  | wrdata payload => rfl
  | _ => cases h

theorem beginState_wbuf_of_ne_wrdata {i : Instr} (s : State) (h : i.opcode ≠ opWrdata) :
    (beginState i s).wbuf = s.wbuf := by
  cases i with
  | wrdata payload => exact absurd rfl h
  | _ => rfl

/-- RDOUT's Start begins at the first output register. -/
theorem beginState_oidx_of_rdout {i : Instr} (s : State) (h : i.opcode = opRdout) : (beginState i s).oidx = 0 := by
  cases i with
  | rdout => rfl
  | _ => cases h

theorem beginState_oidx_of_ne_rdout {i : Instr} (s : State) (h : i.opcode ≠ opRdout) :
    (beginState i s).oidx = s.oidx := by
  cases i with
  | rdout => exact absurd rfl h
  | _ => rfl

/-- Settles O4: a request that passes is accepted as its operation, and any other is refused. -/
theorem requestAcceptedExactlyWhenChecksHold : Obligations.RequestAcceptedExactlyWhenChecksHold := by
  intro s req rest hh hb
  rw [requestChecks_iff]
  constructor
  · rintro ⟨i, hd, hl⟩
    obtain ⟨-, -, hop : req.word.extractLsb' 0 3 = _, hf : req.word.getLsbD 3 = _,
      ha : req.word.extractLsb' 8 8 = _, hB : req.word.extractLsb' 16 8 = _⟩ := fields_of_decode hd
    obtain ⟨-, -, hpay⟩ := decode_eq_ok_iff.mp hd
    rw [hop, hf, ha, hB]
    refine ⟨_, _, (step_of_accepted hh hb hd hl).trans (congrArg _ (beginState_accept_eq i _)), fun hi => ?_,
      beginState_wbuf_of_ne_wrdata _, beginState_oidx_of_rdout _, beginState_oidx_of_ne_rdout _⟩
    rw [beginState_wbuf_of_wrdata _ hi, hpay hi]
  · intro hn
    have hr : ∀ i, decode req = .ok i → legal s.cfg i = false := by simpa using hn
    exact step_of_refused hh hb hr

/-- Settles O14: none of these operations is legal. -/
theorem illegalOperationRaisesFault : Obligations.IllegalOperationRaisesFault := by
  intro s i hb h
  have hl : legal s.cfg i = false := by
    obtain ⟨reg, rfl⟩ | ⟨payload, rfl, hp⟩ | ⟨ha, ⟨loc, value, rfl⟩ | ⟨loc, rfl⟩⟩ := h
    · rfl
    · simp only [legal, Instr.wellFormed, permitted, Bool.and_eq_false_iff, decide_eq_false_iff_not, not_le]
      exact hp
    · exact ha
    · exact ha
  exact exec_of_illegal hb hl

end Sys2Proof.Machine

/-! The status byte decoder (spec/30_encoding.md R106, R107). -/

namespace Sys2Proof.Machine

/-- A byte is read at bits 3:0 and at the position ERR_BIT names. -/
theorem decodeStatus_byte_of_errBit {cfg : Config} {p : ErrBit} (h : cfg.errBit = p) (v : Byte) :
    decodeStatus cfg (.byte v) = some (v.extractLsb' 0 4, v.getLsbD (errBitPos p)) := by
  rw [decodeStatus_byte, statusFields, h]

/-- The byte 0xFF has counter 15 and the error flag, wherever the flag stands. -/
theorem statusFields_allOnes (cfg : Config) : statusFields cfg 0xFF#8 = (15#4, true) := by
  unfold statusFields
  cases cfg.errBit <;> rfl

/-- In mode ALL_ONES no data reads as the byte 0xFF. -/
theorem decodeStatus_nodata_of_allOnes {cfg : Config} (h : cfg.nodataStatusMode = .allOnes) :
    decodeStatus cfg .nodata = some (15#4, true) := by
  simp only [decodeStatus, h, statusFields_allOnes]

/-- Settles O18: one clause for each position of the error flag and each NODATA mode. -/
theorem statusDecoder : Obligations.StatusDecoder := fun _ =>
  ⟨decodeStatus_byte_of_errBit, decodeStatus_byte_of_errBit, decodeStatus_byte_of_errBit, decodeStatus_byte_of_errBit,
    decodeStatus_nodata_of_allOnes, fun h => decodeStatus_eq_none.mpr ⟨rfl, h⟩⟩

/-- Settles O3: the seven texts and words are computed, whatever the configuration. -/
theorem workedEncodings : Obligations.WorkedEncodings := fun _ =>
  ⟨⟨rfl, rfl⟩, ⟨rfl, rfl⟩, ⟨rfl, rfl⟩, ⟨rfl, rfl⟩, ⟨rfl, rfl⟩, ⟨rfl, rfl⟩, ⟨rfl, rfl⟩⟩

end Sys2Proof.Machine

/-! The driver calls of the bus primitives, and the two operations made of one primitive each, WRDATA and RDREG
(spec/40_transport.md R140 to R145). -/

namespace Sys2Proof.Machine

/-- One more event appends its driver calls. -/
theorem busCalls_record (e : Event) (s : State) :
    (s.record e).busCalls = s.busCalls ++ Event.calls s.cfg.devAddr e := by
  simp [State.busCalls]

theorem busCalls_busWrite (bytes : List Byte) (s : State) :
    (s.busWrite bytes).busCalls = s.busCalls ++ Event.calls s.cfg.devAddr (.write bytes) :=
  busCalls_record _ s

/-- Taking the environment's answer is no driver call of its own. -/
theorem busCalls_busRead (reg n : Byte) (s : State) :
    (s.busRead reg n).busCalls = s.busCalls ++ Event.calls s.cfg.devAddr (.read reg n s.answer) := by
  simp [State.busCalls]

/-- A transaction begins a transmission to its own device only. -/
theorem beginTransmission_mem_calls {dev d : BitVec 7} {e : Event} :
    .beginTransmission d ∈ Event.calls dev e ↔ d = dev := by
  cases e with
  | write bytes => simp [Event.calls]
  | read reg n r => cases r <;> simp [Event.calls]

/-- A transaction requests bytes from its own device only. -/
theorem device_of_requestFrom_mem_calls {dev d : BitVec 7} {n : Byte} {e : Event}
    (h : .requestFrom d n ∈ Event.calls dev e) : d = dev := by
  cases e with
  | write bytes => simp [Event.calls] at h
  | read reg m r =>
    have hsame : d = dev ∧ n = m := by cases r <;> simpa [Event.calls] using h
    exact hsame.left

/-- The value of RES after a read is the one R144 gives. -/
theorem answerWord_eq_readWord (r : Answer) : answerWord r = Claims.readWord r := by
  cases r <;> rfl

/-- Settles O17: each primitive appends its event, and so that event's calls, all to DEV_ADDR. -/
theorem busPrimitivesMakeTheirCalls : Obligations.BusPrimitivesMakeTheirCalls := by
  refine ⟨fun s bytes => State.busWrite_trace bytes s, fun s reg n => State.busRead_trace reg n s, fun v => rfl, rfl,
    fun s bytes => busCalls_busWrite bytes s, fun s reg n v hv => ?_, fun s reg n hn => ?_, fun s call hcall => ?_⟩
  · rw [busCalls_busRead, hv]
    rfl
  · rw [busCalls_busRead, hn]
    rfl
  · obtain ⟨e, -, he⟩ := List.mem_flatMap.mp hcall
    constructor
    · rintro d rfl
      exact beginTransmission_mem_calls.mp he
    · rintro d n rfl
      exact device_of_requestFrom_mem_calls he

/-- What the registers hold field by field when they hold an operation (spec/10_state.md R40). -/
theorem State.holds_iff {s : State} {i : Instr} : s.holds i = true ↔
    s.op = i.opcode ∧ s.force = i.forceBit ∧ s.a = i.operandA ∧ s.b = i.operandB ∧
      (i.opcode = opWrdata → s.sendBytes = i.payloadBytes) := by
  simp only [State.holds, Bool.and_eq_true, Bool.or_eq_true, decide_eq_true_eq, and_assoc, imp_iff_not_or, ne_eq]

/-- A WRDATA in progress writes its payload and ends (R143). -/
theorem engineStep_of_running_wrdata {s : State} {payload : List Byte} (h : s.Running (.wrdata payload)) :
    s.engineStep = (s.busWrite payload).finish := by
  obtain ⟨-, hh, ho⟩ := h
  have hq : s.seq = .wdXfer := of_decide_eq_true ho
  obtain ⟨-, -, -, -, hpay⟩ := State.holds_iff.mp hh
  have hsend : s.sendBytes = payload := hpay rfl
  rw [State.engineStep, hq, ← hsend]
  rfl

/-- An RDREG in progress reads its register and ends with the answer in RES (R144). -/
theorem engineStep_of_running_rdreg {s : State} {reg count : Byte} (h : s.Running (.rdreg reg count)) :
    s.engineStep = (s.busRead reg count).finishWith (answerWord s.answer) := by
  obtain ⟨-, hh, ho⟩ := h
  have hq : s.seq = .rrXfer := of_decide_eq_true ho
  obtain ⟨-, -, ha : s.a = reg, hb : s.b = count, -⟩ := State.holds_iff.mp hh
  rw [State.engineStep, hq, ← ha, ← hb]
  rfl

/-- Settles O15: the WRDATA in progress makes its step. -/
theorem wrdataWritesPayloadOnce : Obligations.WrdataWritesPayloadOnce := by
  intro s payload hb hh hq
  have hrun : s.Running (.wrdata payload) := ⟨hb, hh, decide_eq_true hq⟩
  rw [exec_of_running hrun, engineStep_of_running_wrdata hrun]
  rfl

/-- A read that ends its operation takes one answer, records it, and writes RES and the flags. -/
theorem finishWith_busRead (v : Word16) (reg n : Byte) (s : State) :
    (s.busRead reg n).finishWith v = { s.answered with
      trace := s.trace ++ [.read reg n s.answer], res := v, busy := false, done := true, seq := .idle } := by
  rw [State.busRead, State.record, State.answered_trace]
  rfl

/-- Settles O16: the RDREG in progress makes its step. -/
theorem rdregReadsFirstByte : Obligations.RdregReadsFirstByte := by
  intro s reg count hb hh hq
  have hrun : s.Running (.rdreg reg count) := ⟨hb, hh, decide_eq_true hq⟩
  rw [exec_of_running hrun, engineStep_of_running_rdreg hrun, finishWith_busRead, answerWord_eq_readWord]

/-- Settles O32: the operation is accepted, refused, in progress, or discarded by a busy engine. The operations differ
when accepted (WBUF) and in progress (the transaction). -/
theorem transportFrame : Obligations.TransportFrame := by
  intro s t i h hi
  rcases exec_cases i s with ⟨hb, -, he⟩ | ⟨hb, -, he⟩ | ⟨hrun, he⟩ | ⟨hb, -, he⟩ <;> cases he.symm.trans h
  · obtain ⟨payload, rfl⟩ | ⟨reg, count, rfl⟩ := hi
    · simp [hb, beginState]
    · simp [hb, beginState]
  · simp [hb, faultMask]
  · have hb : s.busy = true := hrun.1
    obtain ⟨payload, rfl⟩ | ⟨reg, count, rfl⟩ := hi
    · simp [hb, engineStep_of_running_wrdata hrun]
    · simp [hb, engineStep_of_running_rdreg hrun]
  · simp [hb, faultMask]

end Sys2Proof.Machine

/-! The completion detector and the result mapper (spec/41_command_engine.md R170, R171; 30_encoding.md R109). -/

namespace Sys2Proof.Machine

/-- The detector as the rule words it: the counter grew, or wrapped from 15 to 0. -/
theorem advanced_iff {i c : Counter} : advanced i c = true ↔ i.toNat < c.toNat ∨ (i = 15#4 ∧ c = 0#4) := by
  simp [advanced]

/-- The detector on counter values. -/
theorem advanced_iff_toNat {i c : Counter} :
    advanced i c = true ↔ i.toNat < c.toNat ∨ (i.toNat = 15 ∧ c.toNat = 0) := by
  rw [advanced_iff, BitVec.toNat_eq, BitVec.toNat_eq]
  rfl

/-- Settles O19: a counter is at most 15, so below 15 only growth counts, and at 15 only the wrap. -/
theorem completionDetector : Obligations.CompletionDetector := by
  intro i c
  have hi : i.toNat < 16 := i.isLt
  have hc : c.toNat < 16 := c.isLt
  have hsame : ¬ advanced i i = true := by
    rw [advanced_iff_toNat]
    omega
  rw [advanced_iff_toNat]
  refine ⟨Iff.rfl, fun _ => ?_, fun _ => ?_, eq_false_of_ne_true hsame, rfl, rfl⟩ <;> omega

/-- A device error is the counter plus one, which does not wrap. -/
theorem toNat_resultWord_deviceError (c : Counter) : (resultWord (.deviceError c)).toNat = c.toNat + 1 := by
  have hc : c.toNat < 16 := c.isLt
  simp only [resultWord, BitVec.toNat_add, BitVec.truncate_eq_setWidth, BitVec.toNat_setWidth, BitVec.toNat_ofNat]
  omega

/-- A pre-held error is the negation of that, in two's complement. -/
theorem toNat_resultWord_preheld (c : Counter) : (resultWord (.preheld c)).toNat = 0xFFFF - c.toNat := by
  have hneg : resultWord (.preheld c) = -resultWord (.deviceError c) := rfl
  have hc : c.toNat < 16 := c.isLt
  rw [hneg, BitVec.toNat_neg, toNat_resultWord_deviceError]
  omega

/-- The outcome read back from RES: the four ranges of values are disjoint (30_encoding.md R109). -/
theorem commandResultOf_resultWord (x : CommandResult) : commandResultOf (resultWord x) = some x := by
  cases x with
  | success => rfl
  | timeout => rfl
  | deviceError c =>
    have hn := toNat_resultWord_deviceError c
    have hc : c.toNat < 16 := c.isLt
    have h0 : resultWord (.deviceError c) ≠ 0x0000#16 := by bv_omega
    have h17 : resultWord (.deviceError c) ≠ 0x0011#16 := by bv_omega
    rw [commandResultOf, if_neg h0, if_neg h17, hn, if_pos (by omega), Nat.add_sub_cancel, BitVec.ofNat_toNat]
    rfl
  | preheld c =>
    have hn := toNat_resultWord_preheld c
    have hc : c.toNat < 16 := c.isLt
    have h0 : resultWord (.preheld c) ≠ 0x0000#16 := by bv_omega
    have h17 : resultWord (.preheld c) ≠ 0x0011#16 := by bv_omega
    rw [commandResultOf, if_neg h0, if_neg h17, hn, if_neg (by omega), if_pos (by omega),
      Nat.sub_sub_self (by omega), BitVec.ofNat_toNat]
    rfl

/-- Settles O20: the error values as signed integers come from their bits, and the outcome is read back. -/
theorem resultMapper : Obligations.ResultMapper := by
  refine ⟨rfl, rfl, fun c => ?_, fun c => ?_, commandResultOf_resultWord⟩
  · have hc : c.toNat < 16 := c.isLt
    rw [BitVec.toInt_eq_toNat_cond, toNat_resultWord_deviceError]
    omega
  · have hc : c.toNat < 16 := c.isLt
    rw [BitVec.toInt_eq_toNat_cond, toNat_resultWord_preheld]
    omega

end Sys2Proof.Machine

/-! SENDCMD: its engine steps, one equation for each way a step can go (spec/41_command_engine.md R173 to R176). -/

namespace Sys2Proof.Machine

/-- A status read takes one answer and records it. -/
theorem State.statusRead_eq (s : State) :
    s.statusRead = { s.answered with trace := s.trace ++ [.read s.cfg.regStatus 1 s.answer] } := by
  rw [State.statusRead, State.busRead, State.record, State.answered_trace]

/-- The same with the answer from the script. -/
theorem State.statusRead_of_cons {s : State} {r : Answer} {rest : List Answer} (h : s.answers = r :: rest) :
    s.statusRead = { s with answers := rest, trace := s.trace ++ [.read s.cfg.regStatus 1 r] } := by
  obtain ⟨ha, hs⟩ := State.answer_cons h
  rw [State.statusRead_eq, ha, hs]

/-- Writing SEQ as it stands changes nothing. -/
theorem State.with_seq_eq_self {s : State} {q : Seq} (h : s.seq = q) : { s with seq := q } = s := by
  cases h
  rfl

/-- The state once a poll is made and counted (R175). -/
def State.polled (s : State) : State := { s.statusRead with retry := countPoll s.cfg s.retry }

section

variable {s : State} {c : Counter} {e : Bool}

/-- Where the decoder raises STATUS_NODATA the rest of the step does not happen. -/
theorem engineStep_sendcmd_nodata (hq : s.seq = .scInit ∨ s.seq = .scPoll) (hd : decodeStatus s.cfg s.answer = none) :
    s.engineStep = s.statusRead.raise .statusNodata := by
  obtain hq | hq := hq
  · simp [State.engineStep, hq, State.scInit, State.readStatus, hd, State.statusRead]
  · simp [State.engineStep, hq, State.scPoll, State.readStatus, hd, State.statusRead]

theorem engineStep_preheld (hq : s.seq = .scInit) (hd : decodeStatus s.cfg s.answer = some (c, true))
    (hf : s.force = false) :
    s.engineStep = { s.statusRead with initCtr := c }.finishWith (resultWord (.preheld c)) := by
  simp [State.engineStep, hq, State.scInit, State.readStatus, hd, hf]

theorem engineStep_initial (hq : s.seq = .scInit) (hd : decodeStatus s.cfg s.answer = some (c, e))
    (hgo : e = false ∨ s.force = true) : s.engineStep = { s.statusRead with initCtr := c, seq := .scCmd } := by
  obtain he | hf := hgo
  · simp [State.engineStep, hq, State.scInit, State.readStatus, hd, he]
  · simp [State.engineStep, hq, State.scInit, State.readStatus, hd, hf]

theorem engineStep_command_noPolls (hq : s.seq = .scCmd) (hm : s.cfg.maxRetries = 0) :
    s.engineStep = { s.busWrite (commandPacket s.cfg s.a) with retry := 0 }.finishWith (resultWord .timeout) := by
  simp [State.engineStep, hq, State.scCmd, hm]

theorem engineStep_command (hq : s.seq = .scCmd) (hm : s.cfg.maxRetries ≠ 0) :
    s.engineStep = { s.busWrite (commandPacket s.cfg s.a) with retry := 0, seq := .scPoll } := by
  simp [State.engineStep, hq, State.scCmd, hm]

/-- The command packet is written whether or not polls follow. -/
theorem engineStep_command_trace (hq : s.seq = .scCmd) :
    s.engineStep.trace = s.trace ++ [.write (commandPacket s.cfg s.a)] := by
  by_cases hm : s.cfg.maxRetries = 0
  · rw [engineStep_command_noPolls hq hm]
    rfl
  · rw [engineStep_command hq hm]
    rfl

theorem engineStep_poll_deviceError (hq : s.seq = .scPoll) (hd : decodeStatus s.cfg s.answer = some (c, true)) :
    s.engineStep = s.polled.finishWith (resultWord (.deviceError c)) := by
  simp [State.engineStep, hq, State.scPoll, State.readStatus, hd, State.polled]

theorem engineStep_poll_success (hq : s.seq = .scPoll) (hd : decodeStatus s.cfg s.answer = some (c, false))
    (ha : advanced s.initCtr c = true) : s.engineStep = s.polled.finishWith (resultWord .success) := by
  simp [State.engineStep, hq, State.scPoll, State.readStatus, hd, ha, State.polled]

theorem engineStep_poll_timeout (hq : s.seq = .scPoll) (hd : decodeStatus s.cfg s.answer = some (c, false))
    (ha : ¬ advanced s.initCtr c = true) (hm : countPoll s.cfg s.retry = s.cfg.maxRetries) :
    s.engineStep = s.polled.finishWith (resultWord .timeout) := by
  simp [State.engineStep, hq, State.scPoll, State.readStatus, hd, ha, hm, State.polled]

/-- Polling goes on: SEQ stays. -/
theorem engineStep_poll_again (hq : s.seq = .scPoll) (hd : decodeStatus s.cfg s.answer = some (c, false))
    (ha : ¬ advanced s.initCtr c = true) (hm : countPoll s.cfg s.retry ≠ s.cfg.maxRetries) :
    s.engineStep = s.polled := by
  have hseq : s.polled.seq = .scPoll := by simp [State.polled, hq]
  rw [← State.with_seq_eq_self hseq]
  simp [State.engineStep, hq, State.scPoll, State.readStatus, hd, ha, hm, State.polled]

end

/-- What the latches hold for SENDCMD (30_encoding.md R102). -/
theorem operands_of_holds_sendcmd {s : State} {force : Bool} {code : Byte}
    (h : s.holds (.sendcmd force code) = true) : s.force = force ∧ s.a = code := by
  obtain ⟨-, hf, ha, -⟩ := State.holds_iff.mp h
  exact ⟨hf, ha⟩

/-- A SENDCMD in one of its sequencer states makes the engine step. -/
theorem exec_sendcmd_of_seq {s : State} {force : Bool} {code : Byte} (hb : s.busy = true)
    (hh : s.holds (.sendcmd force code) = true) (hq : s.seq = .scInit ∨ s.seq = .scCmd ∨ s.seq = .scPoll) :
    exec (.sendcmd force code) s = .next s.engineStep :=
  exec_of_running ⟨hb, hh, decide_eq_true hq⟩

/-- Settles O22: the three ways the step SC_INIT can go. -/
theorem sendcmdInitStep : Obligations.SendcmdInitStep := by
  intro s force code hb hh hq
  obtain ⟨rfl, -⟩ := operands_of_holds_sendcmd hh
  rw [exec_sendcmd_of_seq hb hh (.inl hq)]
  refine ⟨fun c hd hf => ?_, fun c e hd hgo => ?_, fun hd => ?_⟩
  · rw [engineStep_preheld hq hd hf, State.statusRead_eq]
    rfl
  · rw [engineStep_initial hq hd hgo, State.statusRead_eq]
  · rw [engineStep_sendcmd_nodata (.inl hq) hd, State.statusRead_eq, ← State.answered_fault]
    rfl

/-- Settles O23: with and without polls to follow. -/
theorem sendcmdCommandStep : Obligations.SendcmdCommandStep := by
  intro s force code hb hh hq
  obtain ⟨-, rfl⟩ := operands_of_holds_sendcmd hh
  rw [exec_sendcmd_of_seq hb hh (.inr (.inl hq))]
  exact ⟨fun hm => congrArg _ (engineStep_command_noPolls hq hm), fun hm => congrArg _ (engineStep_command hq hm)⟩

/-- A poll as one read of the next answer. -/
theorem State.polled_eq (s : State) : s.polled = { s.answered with
    trace := s.trace ++ [.read s.cfg.regStatus 1 s.answer], retry := Claims.nextRetry s } := by
  rw [State.polled, State.statusRead_eq]
  rfl

/-- Settles O24: the five ways the step SC_POLL can go. -/
theorem sendcmdPollStep : Obligations.SendcmdPollStep := by
  intro s force code hb hh hq
  rw [exec_sendcmd_of_seq hb hh (.inr (.inr hq))]
  refine ⟨fun c hd => ?_, fun c hd ha => ?_, fun c hd ha hm => ?_, fun c hd ha hm => ?_, fun hd => ?_⟩
  · rw [engineStep_poll_deviceError hq hd, State.polled_eq]
    rfl
  · rw [engineStep_poll_success hq hd (advanced_iff.mpr ha), State.polled_eq]
    rfl
  · rw [engineStep_poll_timeout hq hd (mt advanced_iff.mp ha) hm, State.polled_eq]
    rfl
  · rw [engineStep_poll_again hq hd (mt advanced_iff.mp ha) hm, State.polled_eq]
  · rw [engineStep_sendcmd_nodata (.inr hq) hd, State.statusRead_eq, ← State.answered_fault]
    rfl

/-- Settles O25: in mode ALL_ONES no data is a status with counter 15 and the error flag; in mode FAULT it is none. -/
theorem nodataDuringSendcmd : Obligations.NodataDuringSendcmd := by
  intro s force code hb hh hn
  obtain ⟨rfl, rfl⟩ := operands_of_holds_sendcmd hh
  constructor
  · intro hm
    have hd : decodeStatus s.cfg s.answer = some (15#4, true) := hn ▸ decodeStatus_nodata_of_allOnes hm
    refine ⟨fun hq hf => ?_, fun hq hf hhost => ?_, fun hq => ?_⟩
    · refine ⟨_, exec_sendcmd_of_seq hb hh (.inl hq), ?_⟩
      rw [engineStep_preheld hq hd hf, ← hn]
      exact ⟨rfl, rfl, rfl, s.busRead_trace _ _⟩
    · have ht := engineStep_initial hq hd (.inr hf)
      have hq' : s.engineStep.seq = .scCmd := by rw [ht]
      have hhost' : s.engineStep.host = [] := by simp [ht, hhost]
      refine ⟨_, _, exec_sendcmd_of_seq hb hh (.inl hq), by rw [ht], by simp [ht, hb], step_of_silent hhost', ?_⟩
      rw [engineStep_command_trace hq']
      simp [ht, hn, commandPacket]
    · refine ⟨_, exec_sendcmd_of_seq hb hh (.inr (.inr hq)), ?_⟩
      rw [engineStep_poll_deviceError hq hd]
      exact ⟨rfl, rfl, rfl⟩
  · intro hm hq
    have hd : decodeStatus s.cfg s.answer = none := decodeStatus_eq_none.mpr ⟨hn, hm⟩
    refine ⟨_, exec_sendcmd_of_seq hb hh (by tauto), ?_⟩
    rw [engineStep_sendcmd_nodata hq hd]
    simp [faultMask]

end Sys2Proof.Machine

/-! What every step of SENDCMD leaves unchanged (spec/41_command_engine.md R172). -/

namespace Sys2Proof.Machine

/-- The states an engine step of SENDCMD can lead to, whatever counter, count and result it writes. -/
inductive State.SendcmdStep (s : State) : State → Prop where
  | nodata : s.SendcmdStep (s.statusRead.raise .statusNodata)
  | preheld (c : Counter) (v : Word16) (hq : s.seq = .scInit) :
      s.SendcmdStep ({ s.statusRead with initCtr := c }.finishWith v)
  | initial (c : Counter) (hq : s.seq = .scInit) : s.SendcmdStep { s.statusRead with initCtr := c, seq := .scCmd }
  | noPolls (v : Word16) (hq : s.seq = .scCmd) :
      s.SendcmdStep ({ s.busWrite (commandPacket s.cfg s.a) with retry := 0 }.finishWith v)
  | command (hq : s.seq = .scCmd) :
      s.SendcmdStep { s.busWrite (commandPacket s.cfg s.a) with retry := 0, seq := .scPoll }
  | pollEnd (n : Nat) (v : Word16) (hq : s.seq = .scPoll) :
      s.SendcmdStep ({ s.statusRead with retry := n }.finishWith v)
  | pollAgain (n : Nat) (hq : s.seq = .scPoll) : s.SendcmdStep { s.statusRead with retry := n, seq := .scPoll }

/-- A SENDCMD in progress makes one of these steps. -/
theorem sendcmdStep_of_running {s : State} {force : Bool} {code : Byte} (h : s.Running (.sendcmd force code)) :
    s.SendcmdStep s.engineStep := by
  obtain ⟨-, -, ho⟩ := h
  have hseq : s.seq = .scInit ∨ s.seq = .scCmd ∨ s.seq = .scPoll := of_decide_eq_true ho
  obtain hq | hq | hq := hseq <;> rw [State.engineStep, hq]
  · rcases s.scInit_cases with ⟨-, he⟩ | ⟨c, -, -, he⟩ | ⟨c, e, -, -, he⟩ <;> rw [he]
    · exact .nodata
    · exact .preheld c _ hq
    · exact .initial c hq
  · rcases s.scCmd_cases with ⟨-, he⟩ | ⟨-, he⟩ <;> rw [he]
    · exact .noPolls _ hq
    · exact .command hq
  · rcases s.scPoll_cases with ⟨-, he⟩ | ⟨c, -, he⟩ | ⟨c, -, -, he⟩ | ⟨c, -, -, -, he⟩ | ⟨c, -, -, -, he⟩ <;> rw [he]
    · exact .nodata
    · exact .pollEnd _ _ hq
    · exact .pollEnd _ _ hq
    · exact .pollEnd _ _ hq
    · exact .pollAgain _ hq

/-- Settles O33: a SENDCMD is accepted, never refused, or in progress, or discarded by a busy engine. -/
theorem sendcmdFrame : Obligations.SendcmdFrame := by
  intro s t force code h
  rcases exec_cases (.sendcmd force code) s with ⟨hb, -, he⟩ | ⟨-, hl, -⟩ | ⟨hrun, he⟩ | ⟨hb, -, he⟩
  · cases he.symm.trans h
    simp [hb, beginState]
  · cases hl
  · have hstep : s.SendcmdStep t := by
      cases he.symm.trans h
      exact sendcmdStep_of_running hrun
    obtain ⟨hb, hh, -⟩ := hrun
    obtain ⟨-, rfl⟩ := operands_of_holds_sendcmd hh
    cases hstep with
    | nodata => simp [hb, faultMask]
    | preheld c v hq => simp [hb, hq]
    | initial c hq => simp [hb, hq]
    | noPolls v hq => simp [hb, hq, commandPacket]
    | command hq => simp [hb, hq, commandPacket]
    | pollEnd n v hq => simp [hb, hq]
    | pollAgain n hq => simp [hb, hq]
  · cases he.symm.trans h
    simp [hb, faultMask]

end Sys2Proof.Machine

/-! A whole SENDCMD: its steps are the source's poll loop on the answers (spec/41_command_engine.md R175). -/

namespace Sys2Proof.Machine

/-- One more poll of the loop ends it, or leaves the loop on the remaining answers. -/
theorem pollLoop_succ_eq_some {cfg : Config} {i : Counter} {n k : Nat} {answers : List Answer} {x : CommandResult}
    (h : Claims.pollLoop cfg i (n + 1) answers = some (x, k)) :
    ∃ r rest c e, answers = r :: rest ∧ decodeStatus cfg r = some (c, e) ∧
      ((e = true ∧ x = .deviceError c ∧ k = 1) ∨
        (e = false ∧ advanced i c = true ∧ x = .success ∧ k = 1) ∨
        (e = false ∧ ¬ advanced i c = true ∧ ∃ m, k = m + 1 ∧ Claims.pollLoop cfg i n rest = some (x, m))) := by
  cases answers with
  | nil => cases h
  | cons r rest =>
    cases hd : decodeStatus cfg r with
    | none => simp [Claims.pollLoop, hd] at h
    | some fields =>
      obtain ⟨c, e⟩ := fields
      refine ⟨r, rest, c, e, rfl, hd, ?_⟩
      simp only [Claims.pollLoop, hd, ← advanced_iff] at h
      split_ifs at h with he ha
      · cases h
        exact .inl ⟨he, rfl, rfl⟩
      · cases h
        exact .inr (.inl ⟨eq_false_of_ne_true he, ha, rfl, rfl⟩)
      · obtain ⟨⟨y, m⟩, hloop, hxk⟩ := Option.map_eq_some_iff.mp h
        cases hxk
        exact .inr (.inr ⟨eq_false_of_ne_true he, ha, m, rfl, hloop⟩)

/-- The state once `k` polls of the script are made and the operation has ended with outcome `x`. -/
def State.pollsDone (x : CommandResult) (k : Nat) (s : State) : State := { s with
  retry := s.retry + k, res := resultWord x, busy := false, done := true, seq := .idle
  answers := s.answers.drop k, trace := s.trace ++ (s.answers.take k).map (.read s.cfg.regStatus 1) }

/-- No polls: the operation only ends. -/
theorem State.pollsDone_zero (x : CommandResult) (s : State) : s.pollsDone x 0 = s.finishWith (resultWord x) := by
  simp [State.pollsDone, State.finishWith, State.finish]

section

variable {s : State} {r : Answer} {rest : List Answer}

/-- Below MAX_RETRIES a poll of the script counts one and takes one answer. -/
theorem State.polled_of_cons (ha : s.answers = r :: rest) (hlt : s.retry < s.cfg.maxRetries) :
    s.polled = { s with
      retry := s.retry + 1, answers := rest, trace := s.trace ++ [.read s.cfg.regStatus 1 r] } := by
  rw [State.polled, State.statusRead_of_cons ha, countPoll_of_lt hlt]

/-- The first poll and the polls after it. -/
theorem State.pollsDone_polled (ha : s.answers = r :: rest) (hlt : s.retry < s.cfg.maxRetries) (x : CommandResult)
    (k : Nat) : s.polled.pollsDone x k = s.pollsDone x (k + 1) := by
  rw [State.polled_of_cons ha hlt]
  simp [State.pollsDone, ha, Nat.add_assoc, Nat.add_comm 1 k]

end

/-- A run of one step. -/
theorem run_one {s : State} (hh : s.host = []) : run 1 s = .next s.engineStep :=
  run_succ 0 (step_of_silent hh)

/-- From SC_POLL with `n` polls left to MAX_RETRIES, the engine's polls are the loop's. -/
theorem run_of_pollLoop {n k : Nat} {s : State} {x : CommandResult} (hq : s.seq = .scPoll) (hh : s.host = [])
    (hpos : 0 < n) (hn : s.retry + n = s.cfg.maxRetries)
    (hl : Claims.pollLoop s.cfg s.initCtr n s.answers = some (x, k)) : run k s = .next (s.pollsDone x k) := by
  induction n generalizing s k with
  | zero => omega
  | succ n ih =>
    obtain ⟨r, rest, c, e, ha, hd, hcase⟩ := pollLoop_succ_eq_some hl
    have hlt : s.retry < s.cfg.maxRetries := by omega
    have hcount : countPoll s.cfg s.retry = s.retry + 1 := countPoll_of_lt hlt
    rw [← (State.answer_cons ha).1] at hd
    have ends (he : s.engineStep = s.polled.finishWith (resultWord x)) : run 1 s = .next (s.pollsDone x 1) := by
      rw [run_one hh, he, ← State.pollsDone_zero, State.pollsDone_polled ha hlt]
    obtain ⟨rfl, rfl, rfl⟩ | ⟨rfl, hadv, rfl, rfl⟩ | ⟨rfl, hadv, m, rfl, hrest⟩ := hcase
    · exact ends (engineStep_poll_deviceError hq hd)
    · exact ends (engineStep_poll_success hq hd hadv)
    · obtain rfl | hpos' := Nat.eq_zero_or_pos n
      · cases hrest
        exact ends (engineStep_poll_timeout hq hd hadv (hcount.trans hn))
      · have hmore : countPoll s.cfg s.retry ≠ s.cfg.maxRetries := by omega
        have hrun : run m s.polled = .next (s.polled.pollsDone x m) := by
          rw [State.polled_of_cons ha hlt]
          have hleft : s.retry + 1 + n = s.cfg.maxRetries := by omega
          exact ih hq hh hpos' hleft hrest
        rw [run_succ m (step_of_silent hh), engineStep_poll_again hq hd hadv hmore, hrun, State.pollsDone_polled ha hlt]

/-- From SC_CMD, the command packet and then the loop's polls. With MAX_RETRIES = 0 the loop makes none. -/
theorem run_of_scCmd {k : Nat} {s : State} {x : CommandResult} (hq : s.seq = .scCmd) (hh : s.host = [])
    (hl : Claims.pollLoop s.cfg s.initCtr s.cfg.maxRetries s.answers = some (x, k)) :
    run (k + 1) s =
      .next (State.pollsDone x k { s.busWrite (commandPacket s.cfg s.a) with retry := 0 }) := by
  have hstep := step_of_silent hh
  obtain hm | hpos := Nat.eq_zero_or_pos s.cfg.maxRetries
  · rw [hm] at hl
    cases hl
    rw [run_succ 0 hstep, engineStep_command_noPolls hq hm, State.pollsDone_zero]
    rfl
  · rw [run_succ k hstep, engineStep_command hq hpos.ne']
    exact run_of_pollLoop rfl hh hpos (Nat.zero_add _) hl

/-- Settles O45: SC_INIT takes the first answer, and either ends the operation or goes on to the command. -/
theorem sendcmdRunsTheAlgorithm : Obligations.SendcmdRunsTheAlgorithm := by
  intro s force code r rest c e hrun hq hh ha hd
  obtain ⟨-, hholds, -⟩ := hrun
  obtain ⟨rfl, rfl⟩ := operands_of_holds_sendcmd hholds
  have hread := State.statusRead_of_cons ha
  rw [← (State.answer_cons ha).1] at hd
  constructor
  · rintro rfl hf
    rw [run_one hh, engineStep_preheld hq hd hf, hread]
    rfl
  · intro x k hgo hl
    have hinit := engineStep_initial hq hd hgo
    rw [hread] at hinit
    rw [Nat.add_comm, run_succ (k + 1) (step_of_silent hh), hinit]
    refine Eq.trans (run_of_scCmd rfl hh hl) ?_
    simp [State.pollsDone, State.busWrite, State.record, commandPacket]

end Sys2Proof.Machine

/-! PSET and PQUERY: their engine steps, one equation for each way a step can go (spec/42_param_access.md R221 to
R225). -/

namespace Sys2Proof.Machine

/-- The end of the parameter poll: PSET is over, PQUERY reads its response (R224). -/
def State.paramPollEnd (s : State) : State := if s.op = opPset then s.finish else { s with seq := .pRead }

/-- The state once a poll has read a counter `c` above the baseline, which moves in mode PREVIOUS_POLL only (R224). -/
def State.paramPolled (c : Counter) (s : State) : State :=
  { s.statusRead with priorCtr := if s.cfg.paramBaseline = .previousPoll then c else s.priorCtr }

section

variable {s : State} {c : Counter} {e : Bool}

theorem State.paramPollEnd_of_pset (ho : s.op = opPset) : s.paramPollEnd = s.finish := if_pos ho

theorem State.paramPollEnd_of_pquery (ho : s.op ≠ opPset) : s.paramPollEnd = { s with seq := .pRead } :=
  if_neg ho

/-- Either way the polling is over. -/
theorem State.seq_paramPollEnd_ne (s : State) : s.paramPollEnd.seq ≠ .pPoll := by
  unfold State.paramPollEnd
  split <;> simp

/-- Where the decoder raises STATUS_NODATA the rest of the step does not happen. -/
theorem engineStep_param_nodata (hq : s.seq = .pBase ∨ s.seq = .pPoll) (hd : decodeStatus s.cfg s.answer = none) :
    s.engineStep = s.statusRead.raise .statusNodata := by
  obtain hq | hq := hq
  · simp [State.engineStep, hq, State.pBase, State.readStatus, hd, State.statusRead]
  · simp [State.engineStep, hq, State.pPoll, State.readStatus, hd, State.statusRead]

theorem engineStep_baseline (hq : s.seq = .pBase) (hd : decodeStatus s.cfg s.answer = some (c, e)) :
    s.engineStep = { s.statusRead with priorCtr := c, seq := if s.op = opPset then .pHostin else .pCmd } := by
  simp [State.engineStep, hq, State.pBase, State.readStatus, hd]

theorem engineStep_hostin (hq : s.seq = .pHostin) :
    s.engineStep = { s.busWrite (hostinPacket s.cfg s.b) with seq := .pCmd } := by
  rw [State.engineStep, hq]
  rfl

theorem engineStep_tagged (hq : s.seq = .pCmd) : s.engineStep =
    { s.busWrite (commandPacket s.cfg (if s.op = opPset then psetCode s.a else pqueryCode s.a)) with seq := .pPoll } := by
  rw [State.engineStep, hq]
  rfl

/-- Polling goes on: SEQ stays. -/
theorem engineStep_paramPoll_again (hq : s.seq = .pPoll) (hd : decodeStatus s.cfg s.answer = some (c, e))
    (hc : s.priorCtr.toNat < c.toNat) : s.engineStep = s.paramPolled c := by
  have hseq : (s.paramPolled c).seq = .pPoll := by simp [State.paramPolled, hq]
  rw [← State.with_seq_eq_self hseq]
  cases hm : s.cfg.paramBaseline <;>
    simp [State.engineStep, hq, State.pPoll, State.readStatus, hd, hc, hm, State.paramPolled]

theorem engineStep_paramPoll_end (hq : s.seq = .pPoll) (hd : decodeStatus s.cfg s.answer = some (c, e))
    (hc : c.toNat ≤ s.priorCtr.toNat) : s.engineStep = s.statusRead.paramPollEnd := by
  simp [State.engineStep, hq, State.pPoll, State.readStatus, hd, hc.not_gt, State.paramPollEnd, State.statusRead]

theorem engineStep_value (hq : s.seq = .pRead) :
    s.engineStep = (s.busRead s.cfg.regRespval 1).finishWith (answerWord s.answer) := by
  rw [State.engineStep, hq]
  rfl

/-- Polling goes on exactly when the read status has a counter above the baseline. -/
theorem seq_engineStep_eq_pPoll_iff (hq : s.seq = .pPoll) : s.engineStep.seq = .pPoll ↔
    ∃ c e, decodeStatus s.cfg s.answer = some (c, e) ∧ s.priorCtr.toNat < c.toNat := by
  constructor
  · intro hstay
    cases hd : decodeStatus s.cfg s.answer with
    | none => simp [engineStep_param_nodata (.inr hq) hd] at hstay
    | some fields =>
      obtain ⟨c, e⟩ := fields
      refine ⟨c, e, rfl, Nat.lt_of_not_le fun hc => ?_⟩
      rw [engineStep_paramPoll_end hq hd hc] at hstay
      exact State.seq_paramPollEnd_ne _ hstay
  · rintro ⟨c, e, hd, hc⟩
    rw [engineStep_paramPoll_again hq hd hc]
    exact (s.busRead_seq s.cfg.regStatus 1).trans hq

/-- Whatever it reads, a poll is one status read. -/
theorem engineStep_paramPoll_trace (hq : s.seq = .pPoll) :
    s.engineStep.trace = s.trace ++ [.read s.cfg.regStatus 1 s.answer] := by
  rw [State.engineStep, hq]
  rcases s.pPoll_cases with ⟨-, he⟩ | ⟨c, e, -, -, he⟩ | ⟨c, e, -, -, -, he⟩ | ⟨c, e, -, -, -, he⟩ <;> simp [he]

end

/-- What the latches hold for PSET (30_encoding.md R102). -/
theorem operands_of_holds_pset {s : State} {loc : BitVec 6} {value : Byte} (h : s.holds (.pset loc value) = true) :
    s.op = opPset ∧ s.a = loc.zeroExtend 8 ∧ s.b = value := by
  obtain ⟨ho, -, ha, hb, -⟩ := State.holds_iff.mp h
  exact ⟨ho, ha, hb⟩

/-- What they hold for PQUERY. -/
theorem operands_of_holds_pquery {s : State} {loc : BitVec 6} (h : s.holds (.pquery loc) = true) :
    s.op ≠ opPset ∧ s.a = loc.zeroExtend 8 := by
  obtain ⟨ho, -, ha, -⟩ := State.holds_iff.mp h
  exact ⟨ho ▸ (by decide : opPquery ≠ opPset), ha⟩

/-- The command code of each is its tag over the six bits of the location (R112). -/
theorem psetCode_of_holds {s : State} {loc : BitVec 6} {value : Byte} (h : s.holds (.pset loc value) = true) :
    psetCode s.a = 0b10#2 ++ loc := by
  obtain ⟨-, ha, -⟩ := operands_of_holds_pset h
  rw [psetCode, ha, location_zeroExtend]

theorem pqueryCode_of_holds {s : State} {loc : BitVec 6} (h : s.holds (.pquery loc) = true) :
    pqueryCode s.a = 0b01#2 ++ loc := by
  obtain ⟨-, ha⟩ := operands_of_holds_pquery h
  rw [pqueryCode, ha, location_zeroExtend]

/-- Each tag stands in bits 7:6, above the location. -/
theorem psetTag_append (loc : BitVec 6) : 0b10#2 ++ loc = 0x80#8 ||| loc.zeroExtend 8 := rfl

theorem pqueryTag_append (loc : BitVec 6) : 0b01#2 ++ loc = 0x40#8 ||| loc.zeroExtend 8 := rfl

/-- A PSET at P_HOSTIN writes its value. -/
theorem engineStep_pset_hostin {s : State} {loc : BitVec 6} {value : Byte} (hh : s.holds (.pset loc value) = true)
    (hq : s.seq = .pHostin) :
    s.engineStep = { s with trace := s.trace ++ [.write [s.cfg.regHostin, value]], seq := .pCmd } := by
  obtain ⟨-, -, rfl⟩ := operands_of_holds_pset hh
  exact engineStep_hostin hq

/-- A PSET at P_CMD writes its tagged command. -/
theorem engineStep_pset_tagged {s : State} {loc : BitVec 6} {value : Byte} (hh : s.holds (.pset loc value) = true)
    (hq : s.seq = .pCmd) :
    s.engineStep = { s with trace := s.trace ++ [.write [s.cfg.regCommand, 0b10#2 ++ loc]], seq := .pPoll } := by
  rw [engineStep_tagged hq, if_pos (operands_of_holds_pset hh).1, psetCode_of_holds hh]
  rfl

/-- A PQUERY at P_CMD writes its tagged command. -/
theorem engineStep_pquery_tagged {s : State} {loc : BitVec 6} (hh : s.holds (.pquery loc) = true) (hq : s.seq = .pCmd) :
    s.engineStep = { s with trace := s.trace ++ [.write [s.cfg.regCommand, 0b01#2 ++ loc]], seq := .pPoll } := by
  rw [engineStep_tagged hq, if_neg (operands_of_holds_pquery hh).1, pqueryCode_of_holds hh]
  rfl

/-- The sequencer states of PSET (R226). -/
theorem ownState_pset_iff {loc : BitVec 6} {value : Byte} {q : Seq} : ownState (.pset loc value) q = true ↔
    q = .pBase ∨ q = .pHostin ∨ q = .pCmd ∨ q = .pPoll :=
  decide_eq_true_iff

/-- Those of PQUERY (R227). -/
theorem ownState_pquery_iff {loc : BitVec 6} {q : Seq} : ownState (.pquery loc) q = true ↔
    q = .pBase ∨ q = .pCmd ∨ q = .pPoll ∨ q = .pRead :=
  decide_eq_true_iff

/-- A PQUERY at P_READ makes the engine step. -/
theorem exec_pquery_of_pRead {s : State} {loc : BitVec 6} (hb : s.busy = true) (hh : s.holds (.pquery loc) = true)
    (hq : s.seq = .pRead) : exec (.pquery loc) s = .next s.engineStep :=
  exec_of_running ⟨hb, hh, ownState_pquery_iff.mpr (.inr (.inr (.inr hq)))⟩

section

variable {s : State} {loc : BitVec 6} {value : Byte} {i : Instr}

/-- A PSET or PQUERY in one of the states the two share makes the engine step. -/
theorem exec_param_of_seq (hi : i = .pset loc value ∨ i = .pquery loc) (hb : s.busy = true) (hh : s.holds i = true)
    (hq : s.seq = .pBase ∨ s.seq = .pCmd ∨ s.seq = .pPoll) : exec i s = .next s.engineStep := by
  refine exec_of_running ⟨hb, hh, ?_⟩
  obtain rfl | rfl := hi
  · exact ownState_pset_iff.mpr (by tauto)
  · exact ownState_pquery_iff.mpr (by tauto)

/-- The latched operation code tells the two apart. -/
theorem op_eq_opPset_iff (hi : i = .pset loc value ∨ i = .pquery loc) (hh : s.holds i = true) :
    s.op = opPset ↔ i = .pset loc value := by
  obtain rfl | rfl := hi
  · exact iff_of_true (operands_of_holds_pset hh).1 rfl
  · exact iff_of_false (operands_of_holds_pquery hh).1 Instr.noConfusion

end

/-- Fault entry for STATUS_NODATA after a status read (60_exceptions.md R283). -/
theorem raise_statusRead (s : State) : s.statusRead.raise .statusNodata = { s.answered with
    trace := s.trace ++ [.read s.cfg.regStatus 1 s.answer], fault := s.fault ||| 0b100#3
    busy := false, done := true, seq := .idle } := by
  rw [State.statusRead_eq, ← State.answered_fault]
  rfl

/-- Settles O26: the two ways the step P_BASE can go. -/
theorem paramBaseStep : Obligations.ParamBaseStep := by
  intro s loc value i hi hb hh hq
  rw [exec_param_of_seq hi hb hh (.inl hq)]
  refine ⟨fun c e hd => ?_, fun hd => ?_⟩
  · simp only [engineStep_baseline hq hd, op_eq_opPset_iff hi hh, State.statusRead_eq]
  · rw [engineStep_param_nodata (.inl hq) hd, raise_statusRead]

/-- Settles O27: PSET's value, and the tagged command of each operation. -/
theorem paramWriteSteps : Obligations.ParamWriteSteps := by
  intro s loc value hb
  refine ⟨fun hh hq => ?_, fun hh hq => ?_, fun hh hq => ?_⟩
  · have hrun : s.Running (.pset loc value) := ⟨hb, hh, ownState_pset_iff.mpr (.inr (.inl hq))⟩
    rw [exec_of_running hrun, engineStep_pset_hostin hh hq]
  · rw [exec_param_of_seq (.inl rfl) hb hh (.inr (.inl hq)), engineStep_pset_tagged hh hq, psetTag_append]
  · rw [exec_param_of_seq (value := value) (.inr rfl) hb hh (.inr (.inl hq)), engineStep_pquery_tagged hh hq,
      pqueryTag_append]

/-- Settles O28: the ways the step P_POLL can go; where polling ends, PSET is over and PQUERY goes on. -/
theorem paramPollStep : Obligations.ParamPollStep := by
  intro s loc value i hi hb hh hq
  rw [exec_param_of_seq hi hb hh (.inr (.inr hq))]
  refine ⟨fun c e hd hc => ?_, fun c e hd hc he => ?_, fun c e hd hc he => ?_, fun hd => ?_⟩
  · rw [engineStep_paramPoll_again hq hd hc, State.paramPolled, State.statusRead_eq]
  · subst he
    have ho : s.statusRead.op = opPset := (s.busRead_op _ _).trans (operands_of_holds_pset hh).1
    rw [engineStep_paramPoll_end hq hd hc, State.paramPollEnd_of_pset ho, State.statusRead_eq]
    rfl
  · subst he
    have ho : s.statusRead.op ≠ opPset := by
      rw [State.busRead_op]
      exact (operands_of_holds_pquery hh).1
    rw [engineStep_paramPoll_end hq hd hc, State.paramPollEnd_of_pquery ho, State.statusRead_eq]
  · rw [engineStep_param_nodata (.inr hq) hd, raise_statusRead]

/-- Settles O29: the read ends the operation with its answer in RES. -/
theorem paramReadStep : Obligations.ParamReadStep := by
  intro s loc hb hh hq
  rw [exec_pquery_of_pRead hb hh hq, engineStep_value hq, finishWith_busRead, answerWord_eq_readWord]

end Sys2Proof.Machine

/-! Runs of more than one step. -/

namespace Sys2Proof.Machine

/-- Left alone, a run of one more step begins with the engine's. -/
theorem run_succ_of_engineStep {n : Nat} {s t : State} (hh : s.host = []) (he : s.engineStep = t) :
    run (n + 1) s = run n t :=
  he ▸ run_succ n (step_of_silent hh)

/-- A run in two parts. -/
theorem run_add {m n : Nat} {s t : State} (h : run m s = .next t) : run (m + n) s = run n t := by
  induction m generalizing s with
  | zero =>
    cases h
    rw [Nat.zero_add]
  | succ m ih =>
    cases hs : step s with
    | next u =>
      rw [run_succ m hs] at h
      rw [Nat.add_right_comm, run_succ (m + n) hs, ih h]
    | fault x => simp [run, hs] at h
    | refused x => simp [run, hs] at h

end Sys2Proof.Machine

/-! No data during parameter access, and when its poll ends (spec/42_param_access.md R229, R231). -/

namespace Sys2Proof.Machine

/-- The state once `n` status reads of the script are made and PRIOR_CTR holds `p`. -/
def State.pollsMade (p : Counter) (n : Nat) (s : State) : State := { s with
  priorCtr := p, answers := s.answers.drop n, trace := s.trace ++ (s.answers.take n).map (.read s.cfg.regStatus 1) }

/-- To make no reads changes nothing. -/
theorem State.pollsMade_zero (s : State) : s.pollsMade s.priorCtr 0 = s := by
  simp [State.pollsMade]

section

variable {s : State} {r : Answer} {rest : List Answer}

/-- One read of the script. -/
theorem State.pollsMade_one (ha : s.answers = r :: rest) : s.pollsMade s.priorCtr 1 = s.statusRead := by
  rw [State.statusRead_of_cons ha]
  simp [State.pollsMade, ha]

/-- A poll that goes on. -/
theorem State.paramPolled_of_cons (ha : s.answers = r :: rest) (c : Counter) : s.paramPolled c = { s with
    priorCtr := if s.cfg.paramBaseline = .previousPoll then c else s.priorCtr
    answers := rest, trace := s.trace ++ [.read s.cfg.regStatus 1 r] } := by
  rw [State.paramPolled, State.statusRead_of_cons ha]

/-- A poll that goes on, and the polls after it. -/
theorem State.pollsMade_paramPolled (ha : s.answers = r :: rest) (c p : Counter) (n : Nat) :
    (s.paramPolled c).pollsMade p n = s.pollsMade p (n + 1) := by
  rw [State.paramPolled_of_cons ha]
  simp [State.pollsMade, ha]

end

/-- No counter exceeds 15, so at that baseline no poll goes on. -/
theorem priorCtr_ne_allOnes_of_pPoll {s : State} (hq : s.seq = .pPoll) (hstay : s.engineStep.seq = .pPoll) :
    s.priorCtr ≠ 15#4 := by
  obtain ⟨c, e, -, hc⟩ := (seq_engineStep_eq_pPoll_iff hq).mp hstay
  have hmax : c.toNat < 16 := c.isLt
  intro hp
  rw [hp, BitVec.toNat_ofNat] at hc
  omega

/-- Under FIXED_INITIAL polling goes on, from one baseline, while every answer has a counter above it. -/
theorem run_fixedInitial {s : State} {n : Nat} (hm : s.cfg.paramBaseline = .fixedInitial) (hq : s.seq = .pPoll)
    (hh : s.host = []) (hn : n ≤ s.answers.length)
    (habove : ∀ r ∈ s.answers.take n, ∃ c e, decodeStatus s.cfg r = some (c, e) ∧ s.priorCtr.toNat < c.toNat) :
    run n s = .next (s.pollsMade s.priorCtr n) := by
  induction n generalizing s with
  | zero => rw [State.pollsMade_zero, run]
  | succ n ih =>
    obtain ⟨r, rest, ha⟩ := List.exists_cons_of_length_pos (Nat.zero_lt_of_lt hn)
    simp only [ha, List.take_succ_cons, List.forall_mem_cons] at habove
    obtain ⟨⟨c, e, hd, hc⟩, habove⟩ := habove
    rw [← (State.answer_cons ha).1] at hd
    have hfixed : ¬ s.cfg.paramBaseline = .previousPoll := by simp [hm]
    have hlen : n ≤ rest.length := by simpa [ha] using hn
    rw [run_succ_of_engineStep hh (engineStep_paramPoll_again hq hd hc), ← State.pollsMade_paramPolled ha c,
      State.paramPolled_of_cons ha, if_neg hfixed]
    exact ih hm hq hh hlen habove

/-- Under PREVIOUS_POLL a poll that goes on raises the baseline to what it read. -/
theorem priorCtr_lt_of_previousPoll {s : State} (hm : s.cfg.paramBaseline = .previousPoll) (hq : s.seq = .pPoll)
    (hstay : s.engineStep.seq = .pPoll) : s.priorCtr.toNat < s.engineStep.priorCtr.toNat := by
  obtain ⟨c, e, hd, hc⟩ := (seq_engineStep_eq_pPoll_iff hq).mp hstay
  rw [engineStep_paramPoll_again hq hd hc, State.paramPolled, if_pos hm]
  exact hc

/-- Under PREVIOUS_POLL the baseline can rise at most to 15, so `m` polls suffice where `m` counters lie from it up. -/
theorem exists_run_of_previousPoll {s : State} {m : Nat} (hm : s.cfg.paramBaseline = .previousPoll)
    (hq : s.seq = .pPoll) (hh : s.host = []) (hmax : 16 - s.priorCtr.toNat ≤ m) :
    ∃ k t, 1 ≤ k ∧ k ≤ m ∧ run k s = .next t ∧ t.seq ≠ .pPoll ∧ t.trace.length = s.trace.length + k := by
  induction m generalizing s with
  | zero =>
    have hlt : s.priorCtr.toNat < 16 := s.priorCtr.isLt
    omega
  | succ m ih =>
    have hlen : s.engineStep.trace.length = s.trace.length + 1 := by simp [engineStep_paramPoll_trace hq]
    by_cases hstay : s.engineStep.seq = .pPoll
    · have hup := priorCtr_lt_of_previousPoll hm hq hstay
      obtain ⟨hcfg, hhost⟩ := configurationIsStatic s _ (step_of_silent hh)
      rw [hh, List.tail_nil] at hhost
      obtain ⟨k, t, hk, hkm, hrun, hend, htrace⟩ := ih (hcfg ▸ hm) hstay hhost (by omega)
      exact ⟨k + 1, t, by omega, by omega, (run_succ_of_engineStep hh rfl).trans hrun, hend, by omega⟩
    · exact ⟨1, _, Nat.le_refl 1, by omega, run_one hh, hstay, hlen⟩

/-- Settles O49: in mode PREVIOUS_POLL the baseline rises, in mode FIXED_INITIAL it stays, and nothing exceeds 15. -/
theorem parameterPollTermination : Obligations.ParameterPollTermination := by
  intro s loc value i _ hrun hq hh
  obtain ⟨hb, -, -⟩ := hrun
  refine ⟨fun hm => exists_run_of_previousPoll hm hq hh (Nat.le_refl _), fun hm t ht hstay => ?_,
    fun hm => ⟨fun n hn habove => ?_, fun hp => ?_⟩, fun ⟨c, e, hd, hc⟩ => ?_⟩
  · cases (run_one hh).symm.trans ht
    exact priorCtr_lt_of_previousPoll hm hq hstay
  · exact ⟨_, run_fixedInitial hm hq hh hn habove, hq, hb, rfl⟩
  · exact ⟨_, run_one hh, fun hstay => priorCtr_ne_allOnes_of_pPoll hq hstay hp⟩
  · refine ⟨_, run_one hh, ?_⟩
    rw [engineStep_paramPoll_end hq hd hc]
    exact State.seq_paramPollEnd_ne _

/-- Settles O30: in mode ALL_ONES no data is a status with counter 15, above every baseline but 15; in mode FAULT it is
none; and at P_READ it is a value. -/
theorem nodataDuringParameterAccess : Obligations.NodataDuringParameterAccess := by
  intro s loc value i hi hb hh
  have allOnes (hm : s.cfg.nodataStatusMode = .allOnes) (hn : s.answer = .nodata) :
      decodeStatus s.cfg s.answer = some (15#4, true) := hn ▸ decodeStatus_nodata_of_allOnes hm
  refine ⟨fun hm hn hq => ?_, fun hq hp => ?_, fun hm hn hq => ?_, fun hm hf hq hp hhost n hlen hnodata => ?_,
    fun hm hn hq => ?_, fun he hn hq => ?_⟩
  · refine ⟨_, exec_param_of_seq hi hb hh (.inl hq), ?_⟩
    rw [engineStep_baseline hq (allOnes hm hn)]
    exact ⟨rfl, (s.busRead_busy s.cfg.regStatus 1).trans hb⟩
  · exact ⟨_, exec_param_of_seq hi hb hh (.inr (.inr hq)), fun hstay => priorCtr_ne_allOnes_of_pPoll hq hstay hp⟩
  · rw [exec_param_of_seq hi hb hh (.inr (.inr hq))]
    simp [seq_engineStep_eq_pPoll_iff hq, allOnes hm hn]
  · have habove : ∀ r ∈ s.answers.take n,
        ∃ c e, decodeStatus s.cfg r = some (c, e) ∧ s.priorCtr.toNat < c.toNat := by
      intro r hr
      rw [hnodata r hr]
      exact ⟨15#4, true, decodeStatus_nodata_of_allOnes hm, hp⟩
    exact ⟨_, run_fixedInitial hf hq hhost hlen habove, hq, hb, rfl⟩
  · have hd : decodeStatus s.cfg s.answer = none := decodeStatus_eq_none.mpr ⟨hn, hm⟩
    refine ⟨_, exec_param_of_seq hi hb hh (by tauto), ?_⟩
    rw [engineStep_param_nodata hq hd, raise_statusRead]
    exact ⟨rfl, s.answered_res, rfl, rfl⟩
  · subst he
    refine ⟨_, exec_pquery_of_pRead hb hh hq, ?_⟩
    rw [engineStep_value hq, hn]
    exact ⟨rfl, s.busRead_fault s.cfg.regRespval 1, rfl, rfl⟩

end Sys2Proof.Machine

/-! What every step of PSET and PQUERY leaves unchanged (spec/42_param_access.md R226, R227). -/

namespace Sys2Proof.Machine

/-- The states an engine step of PSET or PQUERY can lead to, whatever baseline and result it writes. -/
inductive State.ParamStep (s : State) : State → Prop where
  | nodata (hq : s.seq = .pBase ∨ s.seq = .pPoll) : s.ParamStep (s.statusRead.raise .statusNodata)
  | baseline (c : Counter) (q : Seq) (hq : s.seq = .pBase) : s.ParamStep { s.statusRead with priorCtr := c, seq := q }
  | hostin (hq : s.seq = .pHostin) : s.ParamStep { s.busWrite (hostinPacket s.cfg s.b) with seq := .pCmd }
  | tagged (hq : s.seq = .pCmd) : s.ParamStep
      { s.busWrite (commandPacket s.cfg (if s.op = opPset then psetCode s.a else pqueryCode s.a)) with seq := .pPoll }
  | pollOn (c : Counter) (hq : s.seq = .pPoll) : s.ParamStep { s.statusRead with priorCtr := c, seq := .pPoll }
  | pollEnd (hq : s.seq = .pPoll) : s.ParamStep s.statusRead.finish
  | pollGo (hq : s.seq = .pPoll) : s.ParamStep { s.statusRead with seq := .pRead }
  | value (v : Word16) (hq : s.seq = .pRead) : s.ParamStep ((s.busRead s.cfg.regRespval 1).finishWith v)

/-- A PSET or PQUERY in progress makes one of these steps. -/
theorem paramStep_of_seq {s : State}
    (hq : s.seq = .pBase ∨ s.seq = .pHostin ∨ s.seq = .pCmd ∨ s.seq = .pPoll ∨ s.seq = .pRead) :
    s.ParamStep s.engineStep := by
  obtain hq | hq | hq | hq | hq := hq <;> rw [State.engineStep, hq]
  · rcases s.pBase_cases with ⟨-, he⟩ | ⟨c, e, -, he⟩ <;> rw [he]
    · exact .nodata (.inl hq)
    · exact .baseline c _ hq
  · exact .hostin hq
  · exact .tagged hq
  · rcases s.pPoll_cases with ⟨-, he⟩ | ⟨c, e, -, -, he⟩ | ⟨c, e, -, -, -, he⟩ | ⟨c, e, -, -, -, he⟩ <;> rw [he]
    · exact .nodata (.inr hq)
    · exact .pollOn _ hq
    · exact .pollEnd hq
    · exact .pollGo hq
  · exact .value _ hq

section

variable {s t : State}

/-- Only P_READ writes RES (10_state.md R35). -/
theorem State.ParamStep.seq_of_res_ne (h : s.ParamStep t) (hne : t.res ≠ s.res) : s.seq = .pRead := by
  cases h with
  | value v hq => exact hq
  | _ => simp at hne

/-- Only the status reads write PRIOR_CTR. -/
theorem State.ParamStep.seq_of_priorCtr_ne (h : s.ParamStep t) (hne : t.priorCtr ≠ s.priorCtr) :
    s.seq = .pBase ∨ s.seq = .pPoll := by
  cases h with
  | baseline c q hq => exact .inl hq
  | pollOn c hq => exact .inr hq
  | _ => simp at hne

/-- Each step is one transaction. -/
theorem State.ParamStep.trace_cases (h : s.ParamStep t) :
    ((s.seq = .pBase ∨ s.seq = .pPoll) ∧ t.trace = s.trace ++ [.read s.cfg.regStatus 1 s.answer]) ∨
    (s.seq = .pHostin ∧ t.trace = s.trace ++ [.write (hostinPacket s.cfg s.b)]) ∨
    (s.seq = .pCmd ∧ t.trace = s.trace ++
      [.write (commandPacket s.cfg (if s.op = opPset then psetCode s.a else pqueryCode s.a))]) ∨
    (s.seq = .pRead ∧ t.trace = s.trace ++ [.read s.cfg.regRespval 1 s.answer]) := by
  cases h with
  | nodata hq => exact .inl ⟨hq, by simp⟩
  | baseline c q hq => exact .inl ⟨.inl hq, by simp⟩
  | hostin hq => exact .inr (.inl ⟨hq, rfl⟩)
  | tagged hq => exact .inr (.inr (.inl ⟨hq, rfl⟩))
  | pollOn c hq => exact .inl ⟨.inr hq, by simp⟩
  | pollEnd hq => exact .inl ⟨.inr hq, by simp⟩
  | pollGo hq => exact .inl ⟨.inr hq, by simp⟩
  | value v hq => exact .inr (.inr (.inr ⟨hq, by simp⟩))

/-- The registers that no step writes. -/
theorem State.ParamStep.unchanged (h : s.ParamStep t) :
    t.initCtr = s.initCtr ∧ t.retry = s.retry ∧ t.oidx = s.oidx ∧ t.obuf = s.obuf ∧ t.ir = s.ir ∧ t.vis = s.vis ∧
      t.wbuf = s.wbuf ∧ t.cfg = s.cfg ∧ t.host = s.host := by
  cases h <;> simp

theorem State.ParamStep.latches (h : s.ParamStep t) : t.op = s.op ∧ t.force = s.force ∧ t.a = s.a ∧ t.b = s.b := by
  cases h <;> simp

/-- The one fault is STATUS_NODATA. -/
theorem State.ParamStep.fault (h : s.ParamStep t) : t.fault = s.fault ∨ t.fault = s.fault ||| 0b100#3 := by
  cases h with
  | nodata hq => exact .inr (by simp [faultMask])
  | _ => exact .inl (by simp)

end

/-- A PSET in progress never reads a response: its transactions are status reads and its two packets. -/
theorem trace_of_pset {s t : State} {loc : BitVec 6} {value : Byte} (hstep : s.ParamStep t)
    (hh : s.holds (.pset loc value) = true) (hown : ownState (.pset loc value) s.seq = true) :
    ((s.seq = .pBase ∨ s.seq = .pPoll) ∧ t.trace = s.trace ++ [.read s.cfg.regStatus 1 s.answer]) ∨
    (s.seq = .pHostin ∧ t.trace = s.trace ++ [.write (hostinPacket s.cfg value)]) ∨
    (s.seq = .pCmd ∧ t.trace = s.trace ++ [.write (commandPacket s.cfg (psetCode s.a))]) := by
  obtain ⟨ho, -, rfl⟩ := operands_of_holds_pset hh
  have htrace := hstep.trace_cases
  rw [if_pos ho] at htrace
  obtain hread | hhostin | hcmd | ⟨hq, -⟩ := htrace
  · exact .inl hread
  · exact .inr (.inl hhostin)
  · exact .inr (.inr hcmd)
  · simpa [hq] using ownState_pset_iff.mp hown

/-- A PQUERY in progress writes no value: its transactions are status reads, its packet, and the read of the response. -/
theorem trace_of_pquery {s t : State} {loc : BitVec 6} (hstep : s.ParamStep t)
    (hh : s.holds (.pquery loc) = true) (hown : ownState (.pquery loc) s.seq = true) :
    ((s.seq = .pBase ∨ s.seq = .pPoll) ∧ t.trace = s.trace ++ [.read s.cfg.regStatus 1 s.answer]) ∨
    (s.seq = .pCmd ∧ t.trace = s.trace ++ [.write (commandPacket s.cfg (pqueryCode s.a))]) ∨
    (s.seq = .pRead ∧ t.trace = s.trace ++ [.read s.cfg.regRespval 1 s.answer]) := by
  obtain ⟨ho, -⟩ := operands_of_holds_pquery hh
  have htrace := hstep.trace_cases
  rw [if_neg ho] at htrace
  obtain hread | ⟨hq, -⟩ | hrest := htrace
  · exact .inl hread
  · simpa [hq] using ownState_pquery_iff.mp hown
  · exact .inr hrest

/-- Settles O34: an operation is accepted, refused, in progress, or discarded by a busy engine. -/
theorem paramFrame : Obligations.ParamFrame := by
  intro s t i h hi
  rcases exec_cases i s with ⟨hb, -, he⟩ | ⟨hb, -, he⟩ | ⟨hrun, he⟩ | ⟨hb, -, he⟩ <;> cases he.symm.trans h
  · obtain ⟨loc, value, rfl⟩ | ⟨loc, rfl⟩ := hi <;> simp [hb, beginState]
  · simp [hb, faultMask]
  · obtain ⟨hb, hh, hown⟩ := hrun
    have hstep : s.ParamStep s.engineStep := by
      obtain ⟨loc, value, rfl⟩ | ⟨loc, rfl⟩ := hi
      · have hq := ownState_pset_iff.mp hown
        exact paramStep_of_seq (by tauto)
      · have hq := ownState_pquery_iff.mp hown
        exact paramStep_of_seq (by tauto)
    refine ⟨hstep.unchanged, fun ⟨loc, value, hset⟩ => ?_, hstep.seq_of_res_ne, hstep.seq_of_priorCtr_ne,
      fun loc value hset => ?_, fun loc hquery => ?_, fun _ => hstep.latches, fun hidle => ?_, ?_⟩
    · subst hset
      by_contra hne
      simpa [hstep.seq_of_res_ne hne] using ownState_pset_iff.mp hown
    · subst hset
      exact .inr (trace_of_pset hstep hh hown)
    · subst hquery
      exact .inr (trace_of_pquery hstep hh hown)
    · simp [hb] at hidle
    · obtain hsame | hnodata := hstep.fault
      · exact .inl hsame
      · exact .inr (.inr (.inr hnodata))
  · simp [hb, faultMask]

end Sys2Proof.Machine

/-! A whole PSET and a whole PQUERY: their steps are the source's poll loop on the answers (spec/42_param_access.md
R220, R224). -/

namespace Sys2Proof.Machine

/-- One more poll of the loop ends it, or leaves the loop on the remaining answers. -/
theorem paramLoop_cons_eq_some {cfg : Config} {prior p : Counter} {r : Answer} {rest : List Answer} {k : Nat}
    (h : Claims.paramLoop cfg prior (r :: rest) = some (k, p)) :
    ∃ c e, decodeStatus cfg r = some (c, e) ∧
      ((c.toNat ≤ prior.toNat ∧ k = 1 ∧ p = prior) ∨
        (prior.toNat < c.toNat ∧ ∃ m, k = m + 1 ∧
          Claims.paramLoop cfg (if cfg.paramBaseline = .previousPoll then c else prior) rest = some (m, p))) := by
  cases hd : decodeStatus cfg r with
  | none => simp [Claims.paramLoop, hd] at h
  | some fields =>
    obtain ⟨c, e⟩ := fields
    refine ⟨c, e, rfl, ?_⟩
    simp only [Claims.paramLoop, hd] at h
    by_cases hc : prior.toNat < c.toNat
    · rw [if_pos hc] at h
      obtain ⟨⟨m, q⟩, hloop, hkp⟩ := Option.map_eq_some_iff.mp h
      cases hkp
      exact .inr ⟨hc, m, rfl, hloop⟩
    · rw [if_neg hc] at h
      cases h
      exact .inl ⟨Nat.le_of_not_lt hc, rfl, rfl⟩

/-- From P_POLL the engine's polls are the loop's. -/
theorem run_of_paramLoop {answers : List Answer} {s : State} {k : Nat} {p : Counter} (ha : s.answers = answers)
    (hq : s.seq = .pPoll) (hh : s.host = []) (hl : Claims.paramLoop s.cfg s.priorCtr answers = some (k, p)) :
    run k s = .next (s.pollsMade p k).paramPollEnd := by
  induction answers generalizing s k with
  | nil => cases hl
  | cons r rest ih =>
    obtain ⟨c, e, hd, hcase⟩ := paramLoop_cons_eq_some hl
    rw [← (State.answer_cons ha).1] at hd
    obtain ⟨hc, rfl, rfl⟩ | ⟨hc, m, rfl, hrest⟩ := hcase
    · rw [run_one hh, engineStep_paramPoll_end hq hd hc, State.pollsMade_one ha]
    · rw [run_succ_of_engineStep hh (engineStep_paramPoll_again hq hd hc), ← State.pollsMade_paramPolled ha c,
        State.paramPolled_of_cons ha]
      exact ih rfl hq hh hrest

/-- A PSET from P_CMD: the tagged command, then the loop's polls. -/
theorem run_of_pset_pCmd {s : State} {loc : BitVec 6} {value : Byte} {k : Nat} {p : Counter}
    (hholds : s.holds (.pset loc value) = true) (hq : s.seq = .pCmd) (hh : s.host = [])
    (hl : Claims.paramLoop s.cfg s.priorCtr s.answers = some (k, p)) :
    run (k + 1) s = .next ((s.busWrite [s.cfg.regCommand, 0b10#2 ++ loc]).pollsMade p k).finish := by
  rw [run_succ_of_engineStep hh (engineStep_pset_tagged hholds hq)]
  refine Eq.trans (run_of_paramLoop rfl rfl hh hl) ?_
  exact congrArg _ (State.paramPollEnd_of_pset (operands_of_holds_pset hholds).1)

/-- A PQUERY from P_CMD to P_READ: the tagged command, then the loop's polls. -/
theorem run_of_pquery_pCmd {s : State} {loc : BitVec 6} {k : Nat} {p : Counter}
    (hholds : s.holds (.pquery loc) = true) (hq : s.seq = .pCmd) (hh : s.host = [])
    (hl : Claims.paramLoop s.cfg s.priorCtr s.answers = some (k, p)) :
    run (k + 1) s =
      .next { (s.busWrite [s.cfg.regCommand, 0b01#2 ++ loc]).pollsMade p k with seq := .pRead } := by
  rw [run_succ_of_engineStep hh (engineStep_pquery_tagged hholds hq)]
  refine Eq.trans (run_of_paramLoop rfl rfl hh hl) ?_
  exact congrArg _ (State.paramPollEnd_of_pquery (operands_of_holds_pquery hholds).1)

/-- The read of the response, with the answer from the script. -/
theorem engineStep_value_of_cons {s : State} {v : Answer} {more : List Answer} (hq : s.seq = .pRead)
    (ha : s.answers = v :: more) : s.engineStep = { s with
      answers := more, trace := s.trace ++ [.read s.cfg.regRespval 1 v], res := Claims.readWord v
      busy := false, done := true, seq := .idle } := by
  obtain ⟨hanswer, hanswered⟩ := State.answer_cons ha
  rw [engineStep_value hq, finishWith_busRead, hanswer, hanswered, answerWord_eq_readWord]

/-- Settles O46: P_BASE takes the first answer, then the two packets, then the loop's polls. -/
theorem psetRunsTheAlgorithm : Obligations.PsetRunsTheAlgorithm := by
  intro s loc value r rest c p e k hrun hq hh ha hd hl
  obtain ⟨-, hholds, -⟩ := hrun
  rw [← (State.answer_cons ha).1] at hd
  have hbase := engineStep_baseline hq hd
  rw [State.statusRead_of_cons ha, if_pos (operands_of_holds_pset hholds).1] at hbase
  rw [Nat.add_comm, run_succ_of_engineStep hh hbase]
  refine Eq.trans (run_succ_of_engineStep hh (engineStep_pset_hostin hholds rfl)) ?_
  refine Eq.trans (run_of_pset_pCmd hholds rfl hh hl) ?_
  simp [State.pollsMade, State.finish, State.busWrite, State.record]

/-- Settles O47: P_BASE takes the first answer, then the packet, then the loop's polls, then the read of the response. -/
theorem pqueryRunsTheAlgorithm : Obligations.PqueryRunsTheAlgorithm := by
  intro s loc r v rest more c p e k hrun hq hh ha hd hl hv
  obtain ⟨-, hholds, -⟩ := hrun
  rw [← (State.answer_cons ha).1] at hd
  have hbase := engineStep_baseline hq hd
  rw [State.statusRead_of_cons ha, if_neg (operands_of_holds_pquery hholds).1] at hbase
  rw [Nat.add_comm, run_succ_of_engineStep hh hbase]
  refine Eq.trans (run_add (n := 1) (run_of_pquery_pCmd hholds rfl hh hl)) ?_
  refine Eq.trans (run_succ_of_engineStep hh (engineStep_value_of_cons rfl hv)) ?_
  simp [run, State.pollsMade, State.busWrite, State.record]

end Sys2Proof.Machine

/-! RDOUT: its engine steps, and how its last read ends it (spec/43_output_reading.md R261 to R263). -/

namespace Sys2Proof.Machine

/-- The register read at an index is the one R261 gives. -/
theorem outRegister_eq_outReg (cfg : Config) (k : Fin 4) : outRegister cfg k = Claims.outReg cfg k := by
  fin_cases k <;> rfl

/-- A channel needs both its bytes, the high one first (R262). -/
theorem channelWord_eq_some {hi lo : Answer} {w : Word16} :
    channelWord hi lo = some w ↔ ∃ h l, hi = .byte h ∧ lo = .byte l ∧ h ++ l = w := by
  cases hi <;> cases lo <;> simp [channelWord]

/-- Two bytes, high byte first, as a number. -/
theorem toNat_append_byte (h l : Byte) : (h ++ l).toNat = h.toNat * 256 + l.toNat := by
  rw [BitVec.toNat_append, ← Nat.shiftLeft_add_eq_or_of_lt l.isLt, Nat.shiftLeft_eq]

/-- An output read leaves every other answer in OBUF. -/
theorem State.obuf_outputRead_of_ne (s : State) (k : Fin 4) (hk : k ≠ s.oidx) : s.outputRead.obuf[k] = s.obuf[k] :=
  Vector.getElem_set_ne s.oidx.isLt k.isLt (Fin.val_ne_of_ne hk.symm)

section

variable {s : State}

/-- An output read takes one answer, records it, and keeps it in OBUF. -/
theorem State.outputRead_eq {k : Fin 4} (ho : s.oidx = k) : s.outputRead = { s.answered with
    trace := s.trace ++ [.read (Claims.outReg s.cfg k) 1 s.answer], obuf := s.obuf.set k s.answer } := by
  subst ho
  rw [State.outputRead, State.busRead, State.record, State.answered_trace, outRegister_eq_outReg]

/-- The fourth read completes OBUF. -/
theorem State.obuf_outputRead_of_last (ho : s.oidx = 3) : s.outputRead.obuf[0] = s.obuf[0] ∧
    s.outputRead.obuf[1] = s.obuf[1] ∧ s.outputRead.obuf[2] = s.obuf[2] ∧ s.outputRead.obuf[3] = s.answer := by
  simp [ho]

/-- With four bytes in OBUF both channels are assembled (R262). -/
theorem State.roEnd_of_bytes {h l h' l' : Byte} (h0 : s.obuf[0] = .byte h) (h1 : s.obuf[1] = .byte l)
    (h2 : s.obuf[2] = .byte h') (h3 : s.obuf[3] = .byte l') :
    s.roEnd = { s with ir := h ++ l, vis := h' ++ l' }.finishWith 0x0000#16 := by
  simp [State.roEnd, h0, h1, h2, h3, channelWord]

/-- With no data for one of the four RDOUT fails, and IR and VIS are free (R263). -/
theorem State.roEnd_of_nodata
    (hn : s.obuf[0] = .nodata ∨ s.obuf[1] = .nodata ∨ s.obuf[2] = .nodata ∨ s.obuf[3] = .nodata) :
    ∃ ir vis draws, s.roEnd = { s with ir := ir, vis := vis, draws := draws }.finishWith 0xFFFF#16 := by
  obtain ⟨ir, vis, hir, hvis, -⟩ | ⟨-, hfail⟩ := s.roEnd_cases
  · obtain ⟨h, l, h0, h1, -⟩ := channelWord_eq_some.mp hir
    obtain ⟨h', l', h2, h3, -⟩ := channelWord_eq_some.mp hvis
    simp [h0, h1, h2, h3] at hn
  · exact hfail

/-- Before the fourth read OIDX advances and SEQ stays. -/
theorem engineStep_output_next (hq : s.seq = .roRead) (ho : s.oidx ≠ 3) :
    s.engineStep = { s.outputRead with oidx := s.oidx + 1 } := by
  have hlt : s.oidx < 3 := by omega
  have hseq : s.outputRead.seq = .roRead := by simp [hq]
  rw [State.engineStep, hq, ← State.with_seq_eq_self hseq]
  exact if_pos hlt

/-- The fourth read ends the operation. -/
theorem engineStep_output_last (hq : s.seq = .roRead) (ho : s.oidx = 3) : s.engineStep = s.outputRead.roEnd := by
  rw [State.engineStep, hq]
  exact if_neg (by omega)

/-- An RDOUT at RO_READ makes the engine step. -/
theorem exec_rdout_of_roRead (hb : s.busy = true) (hh : s.holds .rdout = true) (hq : s.seq = .roRead) :
    exec .rdout s = .next s.engineStep :=
  exec_of_running ⟨hb, hh, decide_eq_true hq⟩

end

/-- Settles O31: the next read, and the last one with all data or without. -/
theorem rdoutReadStep : Obligations.RdoutReadStep := by
  intro s hb hh hq
  rw [exec_rdout_of_roRead hb hh hq]
  refine ⟨fun ho => ?_, fun ho h l h' l' h0 h1 h2 h3 => ?_, fun ho hn => ?_⟩
  · rw [engineStep_output_next hq ho, State.outputRead_eq rfl]
  · obtain ⟨e0, e1, e2, e3⟩ := State.obuf_outputRead_of_last ho
    rw [engineStep_output_last hq ho, State.roEnd_of_bytes (e0.trans h0) (e1.trans h1) (e2.trans h2) (e3.trans h3),
      State.outputRead_eq ho]
    rfl
  · obtain ⟨e0, e1, e2, e3⟩ := State.obuf_outputRead_of_last ho
    rw [← e0, ← e1, ← e2, ← e3] at hn
    obtain ⟨ir, vis, draws, he⟩ := State.roEnd_of_nodata hn
    refine ⟨ir, vis, draws, ?_⟩
    rw [engineStep_output_last hq ho, he, State.outputRead_eq ho]
    rfl

end Sys2Proof.Machine

/-! What every step of RDOUT leaves unchanged (spec/43_output_reading.md R260). -/

namespace Sys2Proof.Machine

/-- The states an engine step of RDOUT can lead to, whatever results it writes. -/
inductive State.RdoutStep (s : State) : State → Prop where
  | next : s.RdoutStep { s.outputRead with oidx := s.oidx + 1 }
  | last (res ir vis : Word16) (draws : Nat) :
      s.RdoutStep ({ s.outputRead with ir := ir, vis := vis, draws := draws }.finishWith res)

/-- An RDOUT in progress makes one of these steps. -/
theorem rdoutStep_of_roRead {s : State} (hq : s.seq = .roRead) : s.RdoutStep s.engineStep := by
  by_cases ho : s.oidx = 3
  · rw [engineStep_output_last hq ho]
    obtain ⟨ir, vis, -, -, he⟩ | ⟨-, ir, vis, draws, he⟩ := s.outputRead.roEnd_cases <;> rw [he]
    · exact .last _ ir vis _
    · exact .last _ ir vis draws
  · rw [engineStep_output_next hq ho]
    exact .next

/-- Settles O35: an RDOUT is accepted, never refused, or in progress, or discarded by a busy engine. -/
theorem rdoutFrame : Obligations.RdoutFrame := by
  intro s t h
  rcases exec_cases .rdout s with ⟨hb, -, he⟩ | ⟨-, hl, -⟩ | ⟨⟨hb, -, hown⟩, he⟩ | ⟨hb, -, he⟩
  · cases he.symm.trans h
    simp [hb, beginState]
  · cases hl
  · have hstep : s.RdoutStep t := by
      cases he.symm.trans h
      exact rdoutStep_of_roRead (of_decide_eq_true hown)
    cases hstep with
    | next => simpa [hb, outRegister_eq_outReg] using s.obuf_outputRead_of_ne
    | last res ir vis draws => simpa [hb, outRegister_eq_outReg] using s.obuf_outputRead_of_ne
  · cases he.symm.trans h
    simp [hb, faultMask]

end Sys2Proof.Machine

/-! A whole RDOUT: four reads, then its end (spec/43_output_reading.md R260). -/

namespace Sys2Proof.Machine

/-- A run begins with a read before the fourth, its answer from the script. -/
theorem run_succ_of_output {s : State} {n : Nat} (k : Fin 4) {r : Answer} {rest : List Answer} (hq : s.seq = .roRead)
    (hh : s.host = []) (ha : s.answers = r :: rest) (ho : s.oidx = k) (hk : k ≠ 3) : run (n + 1) s = run n { s with
      answers := rest, trace := s.trace ++ [.read (Claims.outReg s.cfg k) 1 r], obuf := s.obuf.set k r
      oidx := k + 1 } := by
  obtain ⟨hanswer, hanswered⟩ := State.answer_cons ha
  rw [run_succ_of_engineStep hh (engineStep_output_next hq (ho ▸ hk)), State.outputRead_eq ho, hanswer, hanswered, ho]

/-- The fourth read, with the answer from the script. -/
theorem engineStep_output_last_of_cons {s : State} {r : Answer} {rest : List Answer} (hq : s.seq = .roRead)
    (ha : s.answers = r :: rest) (ho : s.oidx = 3) : s.engineStep = State.roEnd { s with
      answers := rest, trace := s.trace ++ [.read s.cfg.regOut3 1 r], obuf := s.obuf.set 3 r } := by
  obtain ⟨hanswer, hanswered⟩ := State.answer_cons ha
  rw [engineStep_output_last hq ho, State.outputRead_eq ho, hanswer, hanswered]
  rfl

/-- The state once all four outputs are read, before RDOUT ends (R261). -/
def State.outputsRead (r0 r1 r2 r3 : Answer) (rest : List Answer) (s : State) : State := { s with
  obuf := #v[r0, r1, r2, r3], oidx := 3, answers := rest
  trace := s.trace ++ [.read s.cfg.regOut0 1 r0, .read s.cfg.regOut1 1 r1, .read s.cfg.regOut2 1 r2,
    .read s.cfg.regOut3 1 r3] }

/-- Four reads fill OBUF, whatever it held. -/
theorem obuf_set_all (v : Vector Answer 4) (r0 r1 r2 r3 : Answer) :
    (((v.set 0 r0).set 1 r1).set 2 r2).set 3 r3 = #v[r0, r1, r2, r3] := by
  ext k hk
  match k with
  | 0 | 1 | 2 | 3 => simp

/-- All four reads are made, and then RDOUT ends. The first three keep SEQ and the host's plan by definition
(`by exact`, which is checked once the state is known). -/
theorem run_of_roRead {s : State} {r0 r1 r2 r3 : Answer} {rest : List Answer} (hq : s.seq = .roRead) (ho : s.oidx = 0)
    (hh : s.host = []) (ha : s.answers = r0 :: r1 :: r2 :: r3 :: rest) :
    run 4 s = .next (s.outputsRead r0 r1 r2 r3 rest).roEnd := by
  rw [run_succ_of_output 0 hq hh ha ho (by decide)]
  refine Eq.trans (run_succ_of_output 1 (by exact hq) (by exact hh) rfl rfl (by decide)) ?_
  refine Eq.trans (run_succ_of_output 2 (by exact hq) (by exact hh) rfl rfl (by decide)) ?_
  refine Eq.trans (run_succ_of_engineStep hh (engineStep_output_last_of_cons hq rfl rfl)) ?_
  simp [run, Claims.outReg, State.outputsRead, obuf_set_all]

/-- Settles O48: the four reads, and the end that what they answer gives. -/
theorem rdoutRunsFourReads : Obligations.RdoutRunsFourReads := by
  intro s r0 r1 r2 r3 rest ⟨_, _, hown⟩ ho hh ha
  have hrun := run_of_roRead (of_decide_eq_true hown) ho hh ha
  obtain ⟨ir, vis, hir, hvis, he⟩ | ⟨hn, ir, vis, draws, he⟩ := (s.outputsRead r0 r1 r2 r3 rest).roEnd_cases
  · obtain ⟨h, l, rfl, rfl, rfl⟩ := channelWord_eq_some.mp hir
    obtain ⟨h', l', rfl, rfl, rfl⟩ := channelWord_eq_some.mp hvis
    refine ⟨0x0000#16, h ++ l, h' ++ l', s.draws, hrun.trans (congrArg _ he), ?_, nofun⟩
    rintro _ _ _ _ ⟨⟩ ⟨⟩ ⟨⟩ ⟨⟩
    exact ⟨rfl, toNat_append_byte h l, toNat_append_byte h' l'⟩
  · refine ⟨0xFFFF#16, ir, vis, draws, hrun.trans (congrArg _ he), ?_, fun _ => rfl⟩
    rintro h l h' l' rfl rfl rfl rfl
    obtain hn | hn := hn <;> cases hn

end Sys2Proof.Machine

/-! What a Start given to an idle engine does (spec/60_exceptions.md R288), and what no step does: leave IDLE without a
Start (R294) or stop the machine (R280). -/

namespace Sys2Proof.Machine

/-- The field A of a parameter location is the location under two zero bits (30_encoding.md R102). -/
theorem zeroExtend_eq_append (loc : BitVec 6) : loc.zeroExtend 8 = 0#2 ++ loc :=
  BitVec.setWidth_eq_append (by decide)

/-- Settles O13: each of the operations is legal, so its Start is accepted, and `beginState` says what that writes. -/
theorem legalOperationIsAccepted : Obligations.LegalOperationIsAccepted := by
  intro s hb
  refine ⟨fun force code => exec_of_legal hb rfl, fun reg count hcount => ?rdreg, fun payload hbyte hmax => ?wrdata,
    exec_of_legal hb rfl, fun hparam loc value => ?pset, fun hparam loc => ?pquery⟩
  case rdreg => exact exec_of_legal hb (legal_iff.mpr ⟨decide_eq_true hcount, rfl⟩)
  case wrdata => exact exec_of_legal hb (legal_iff.mpr ⟨decide_eq_true hbyte, decide_eq_true hmax⟩)
  case pset =>
    rw [← zeroExtend_eq_append]
    exact exec_of_legal hb (legal_iff.mpr ⟨rfl, hparam⟩)
  case pquery =>
    rw [← zeroExtend_eq_append]
    exact exec_of_legal hb (legal_iff.mpr ⟨rfl, hparam⟩)

/-- Settles O6: the Start is given to an idle engine and decodes. -/
theorem stepRunsStartedInstruction : Obligations.StepRunsStartedInstruction := by
  intro s req rest i hh hb hd
  rw [step_of_start hh, startAction, if_neg (by simp [hb]), hd]

/-- In IDLE the engine takes no step (log 8). -/
theorem engineStep_of_idle {s : State} (hq : s.seq = .idle) : s.engineStep = s := by
  simp only [State.engineStep, hq]

/-- Settles O8: neither the engine's step in IDLE nor the reset action leaves it, and every other step took a Start. -/
theorem onlyStartLeavesIdle : Obligations.OnlyStartLeavesIdle := by
  intro s hq
  refine ⟨fun hh => ?silent, fun rest hh => ?pass, fun t h hleaves => ?leaves⟩
  case silent => rw [step_of_silent hh, engineStep_of_idle hq]
  case pass => rw [step_of_pass hh, engineStep_of_idle (by exact hq)]
  case leaves =>
    cases stepKind_of_step h with
    | engine rest _ =>
      rw [engineStep_of_idle (by exact hq)] at hleaves
      exact absurd hq hleaves
    | reset => exact absurd rfl hleaves
    | busyStart req rest hh => exact ⟨req, rest, hh⟩
    | refused req rest hh => exact ⟨req, rest, hh⟩
    | accepted req rest i hh => exact ⟨req, rest, hh⟩

/-- Settles O12: every operation has a next state, and so has each kind of step. -/
theorem everyStepAnswersNextState : Obligations.EveryStepAnswersNextState := by
  have hexec : ∀ (i : Instr) (s : State), ∃ t, exec i s = .next t := fun i s => ⟨_, exec_eq_operate i s⟩
  refine ⟨fun s => ?_, hexec⟩
  rcases step_cases s with ⟨_, _, he⟩ | ⟨_, _, he⟩ | ⟨_, _, _, _, he⟩ | ⟨_, _, _, _, _, _, he⟩ |
    ⟨_, _, i, _, _, _, he⟩
  · exact ⟨_, he⟩
  · exact ⟨_, he⟩
  · exact ⟨_, he⟩
  · exact ⟨_, he⟩
  · rw [he]
    exact hexec i _

end Sys2Proof.Machine

/-! FAULT influences nothing (spec/60_exceptions.md R283, R284): each rule of the engine, given another value of FAULT,
leads to the same state but for FAULT. -/

namespace Sys2Proof.Machine

/-- The same state with another value in FAULT. -/
def State.withFault (f : BitVec 3) (s : State) : State := { s with fault := f }

/-- A rule that FAULT influences in nothing but FAULT. -/
def FaultBlind (g : State → State) : Prop :=
  ∀ (f : BitVec 3) (s : State), ∃ f', g (s.withFault f) = (g s).withFault f'

/-- The environment answers regardless of FAULT. -/
theorem State.answered_withFault (f : BitVec 3) (s : State) : (s.withFault f).answered = s.answered.withFault f := by
  simp only [State.answered, State.withFault]
  split <;> rfl

/-- A bus read keeps FAULT and does not depend on it. -/
theorem State.busRead_withFault (reg n : Byte) (f : BitVec 3) (s : State) :
    (s.withFault f).busRead reg n = (s.busRead reg n).withFault f := by
  rw [State.busRead, State.answered_withFault]
  rfl

/-- Fault entry ors its bit into FAULT and does nothing else with it. -/
theorem FaultBlind.raise (k : EngineFault) : FaultBlind (State.raise k) := by
  intro f s
  cases k <;> exact ⟨_, rfl⟩

/-- A choice between two rules that does not read FAULT. -/
theorem FaultBlind.ite {c : State → Prop} [∀ s, Decidable (c s)] {g k : State → State}
    (hc : ∀ f s, c (s.withFault f) = c s) (hg : FaultBlind g) (hk : FaultBlind k) :
    FaultBlind fun s => if c s then g s else k s := by
  intro f s
  simp only [hc]
  split_ifs
  · exact hg f s
  · exact hk f s

/-- A status read is blind to FAULT where the rest of its step is. -/
theorem FaultBlind.readStatus {next : Counter → Bool → State → State} (h : ∀ c e, FaultBlind (next c e)) :
    FaultBlind (State.readStatus next) := by
  intro f s
  have hcfg : (s.withFault f).cfg = s.cfg := rfl
  have hanswer : (s.withFault f).answer = s.answer := rfl
  rw [State.readStatus, State.readStatus, hcfg, hanswer, State.busRead_withFault]
  cases decodeStatus s.cfg s.answer with
  | none => exact FaultBlind.raise _ _ _
  | some fields => exact h fields.1 fields.2 _ _

/-- A read whose answer goes to RES ends its operation alike. -/
theorem State.finishWith_busRead_withFault (reg n : Byte) (f : BitVec 3) (s : State) :
    ((s.withFault f).busRead reg n).finishWith (answerWord (s.withFault f).answer) =
      ((s.busRead reg n).finishWith (answerWord s.answer)).withFault f := by
  rw [State.busRead_withFault]
  rfl

/-! The rules that branch. Each condition is about other registers, by definition. -/

theorem FaultBlind.scInit : FaultBlind State.scInit :=
  .readStatus fun _ e => .ite (c := fun t => (e && !t.force) = true) (fun _ _ => rfl) (fun f _ => ⟨f, rfl⟩)
    fun f _ => ⟨f, rfl⟩

theorem FaultBlind.scCmd : FaultBlind State.scCmd :=
  .ite (c := fun s => s.cfg.maxRetries = 0) (fun _ _ => rfl) (fun f _ => ⟨f, rfl⟩) fun f _ => ⟨f, rfl⟩

theorem FaultBlind.scPoll : FaultBlind State.scPoll :=
  .readStatus fun c e => .ite (c := fun _ => e = true) (fun _ _ => rfl) (fun f _ => ⟨f, rfl⟩) <|
    .ite (c := fun t => advanced t.initCtr c = true) (fun _ _ => rfl) (fun f _ => ⟨f, rfl⟩) <|
    .ite (c := fun t => countPoll t.cfg t.retry = t.cfg.maxRetries) (fun _ _ => rfl) (fun f _ => ⟨f, rfl⟩)
      fun f _ => ⟨f, rfl⟩

theorem FaultBlind.pPoll : FaultBlind State.pPoll := by
  refine .readStatus fun c _ => .ite (c := fun t => c.toNat > t.priorCtr.toNat) (fun _ _ => rfl) ?_ <|
    .ite (c := fun t => t.op = opPset) (fun _ _ => rfl) (fun f _ => ⟨f, rfl⟩) fun f _ => ⟨f, rfl⟩
  intro f t
  have hcfg : (t.withFault f).cfg = t.cfg := rfl
  dsimp only
  rw [hcfg]
  cases t.cfg.paramBaseline <;> exact ⟨f, rfl⟩

/-- RDOUT ends alike: the channels come from OBUF. -/
theorem FaultBlind.roEnd : FaultBlind State.roEnd := by
  intro f s
  have hobuf : (s.withFault f).obuf = s.obuf := rfl
  rw [State.roEnd, State.roEnd, hobuf]
  cases channelWord s.obuf[0] s.obuf[1] with
  | none => exact ⟨f, rfl⟩
  | some ir => cases channelWord s.obuf[2] s.obuf[3] <;> exact ⟨f, rfl⟩

theorem State.outputRead_withFault (f : BitVec 3) (s : State) :
    (s.withFault f).outputRead = s.outputRead.withFault f := by
  rw [State.outputRead, State.busRead_withFault]
  rfl

theorem FaultBlind.roRead : FaultBlind State.roRead := by
  refine .ite (c := fun s => s.oidx < 3) (fun _ _ => rfl) (fun f s => ⟨f, ?next⟩) fun f s => ?last
  case next =>
    exact congrArg (fun t : State => { t with oidx := s.oidx + 1, seq := .roRead }) (State.outputRead_withFault f s)
  case last =>
    obtain ⟨f', hend⟩ := FaultBlind.roEnd f s.outputRead
    exact ⟨f', (congrArg State.roEnd (State.outputRead_withFault f s)).trans hend⟩

/-- No engine step reads FAULT. -/
theorem FaultBlind.engineStep : FaultBlind State.engineStep := by
  intro f s
  have hseq : (s.withFault f).seq = s.seq := rfl
  cases hs : s.seq <;> simp only [State.engineStep, hseq, hs]
  case idle => exact ⟨f, rfl⟩
  case scInit => exact FaultBlind.scInit f s
  case scCmd => exact FaultBlind.scCmd f s
  case scPoll => exact FaultBlind.scPoll f s
  case wdXfer => exact ⟨f, rfl⟩
  case rrXfer => exact ⟨f, State.finishWith_busRead_withFault ..⟩
  case pBase => exact FaultBlind.readStatus (fun _ _ f _ => ⟨f, rfl⟩) f s
  case pHostin => exact ⟨f, rfl⟩
  case pCmd => exact ⟨f, rfl⟩
  case pPoll => exact FaultBlind.pPoll f s
  case pRead => exact ⟨f, State.finishWith_busRead_withFault ..⟩
  case roRead => exact FaultBlind.roRead f s

/-- An accepted Start keeps FAULT and does not read it. -/
theorem FaultBlind.accepted (i : Instr) : FaultBlind fun s => beginState i (s.accept i) := by
  intro f s
  cases i <;> exact ⟨f, rfl⟩

/-- No step reads FAULT: with another value there, the step is of the same kind. -/
theorem step_withFault {s t : State} (f : BitVec 3) (h : step s = .next t) :
    ∃ f', step (s.withFault f) = .next (t.withFault f') := by
  rcases hs : s.host with _ | ⟨turn, rest⟩
  · have hu : (s.withFault f).host = [] := hs
    cases (step_of_silent hs).symm.trans h
    obtain ⟨f', he⟩ := FaultBlind.engineStep f s
    exact ⟨f', (step_of_silent hu).trans (congrArg _ he)⟩
  have hu : (s.withFault f).host = turn :: rest := hs
  cases turn with
  | pass =>
    cases (step_of_pass hs).symm.trans h
    obtain ⟨f', he⟩ := FaultBlind.engineStep f { s with host := rest }
    exact ⟨f', (step_of_pass hu).trans (congrArg _ he)⟩
  | reset =>
    cases (step_of_reset hs).symm.trans h
    exact ⟨0, step_of_reset hu⟩
  | start req =>
    cases hb : s.busy with
    | true =>
      cases (step_of_busyStart hs hb).symm.trans h
      exact ⟨_, step_of_busyStart hu hb⟩
    | false =>
      by_cases hd : ∃ i, decode req = .ok i ∧ legal s.cfg i = true
      · obtain ⟨i, hd, hl⟩ := hd
        cases (step_of_accepted hs hb hd hl).symm.trans h
        obtain ⟨f', he⟩ := FaultBlind.accepted i f { s with host := rest }
        exact ⟨f', (step_of_accepted hu hb hd hl).trans (congrArg _ he)⟩
      · have hr : ∀ i, decode req = .ok i → legal s.cfg i = false := by simpa using hd
        cases (step_of_refused hs hb hr).symm.trans h
        exact ⟨_, step_of_refused hu hb hr⟩

/-- Settles O40: the two results differ only in FAULT. -/
theorem faultBitsInfluenceNothing : Obligations.FaultBitsInfluenceNothing := by
  intro s t f h
  obtain ⟨f', hu⟩ := step_withFault f h
  exact ⟨t.withFault f', hu, rfl⟩

end Sys2Proof.Machine

/-! Starts and reset while an operation is in progress (spec/70_reset_and_hazards.md R320, R323). -/

namespace Sys2Proof.Machine

/-- Settles O9: of the discarded Start only its FAULT bit remains. -/
theorem startWhileBusyIsDiscarded : Obligations.StartWhileBusyIsDiscarded :=
  fun _ _ _ hh hb => step_of_busyStart hh hb

/-- Settles O10: the registers R45 leaves unspecified are the ones drawn. -/
theorem resetActionRestoresRegisters : Obligations.ResetActionRestoresRegisters :=
  fun _ _ hh => ⟨_, _, _, _, _, _, by rw [List.length_map, List.length_range], step_of_reset hh⟩

end Sys2Proof.Machine

/-! An operation left alone ends within its transaction count (spec/70_reset_and_hazards.md R331, R332): its steps make one
transaction each and go from state to state in order, and each of its loops raises a counter. -/

namespace Sys2Proof.Machine

/-- An engine step outside IDLE: one transaction, after which the operation has ended or goes on to a next state of it. -/
structure State.Progress (s t : State) : Prop where
  transaction : t.trace.length = s.trace.length + 1
  outcome : t.seq = .idle ∨ (t.operation = s.operation ∧ t.seq ∈ nextStates s.op s.seq)

/-- Every engine step outside IDLE is such a one. -/
theorem engineStep_progress {s : State} (hne : s.seq ≠ .idle) : s.Progress s.engineStep := by
  have written (bytes : List Byte) : (s.busWrite bytes).trace.length = s.trace.length + 1 := by simp
  have readOnce (reg n : Byte) : (s.busRead reg n).trace.length = s.trace.length + 1 := by simp
  have status : s.statusRead.trace.length = s.trace.length + 1 := readOnce s.cfg.regStatus 1
  have output : s.outputRead.trace.length = s.trace.length + 1 := readOnce (outRegister s.cfg s.oidx) 1
  have keptStatus : s.statusRead.operation = s.operation := by simp [State.operation]
  have keptOutput : s.outputRead.operation = s.operation := by simp [State.operation]
  exact s.engineStep_elim State.Progress
    (idle := fun hq => absurd hq hne)
    (nodata := fun _ _ => ⟨status, .inl rfl⟩)
    (preheld := fun _ _ _ _ => ⟨status, .inl rfl⟩)
    (initial := fun _ _ hq _ _ => ⟨status, .inr ⟨keptStatus, by simp [hq, nextStates]⟩⟩)
    (noPolls := fun _ _ => ⟨written _, .inl rfl⟩)
    (command := fun hq _ => ⟨written _, .inr ⟨rfl, by simp [hq, nextStates]⟩⟩)
    (pollEnd := fun _ _ => ⟨status, .inl rfl⟩)
    (pollOn := fun hq _ => ⟨status, .inr ⟨keptStatus, by simp [hq, nextStates]⟩⟩)
    (write := fun _ => ⟨written _, .inl rfl⟩)
    (read := fun _ => ⟨readOnce _ _, .inl rfl⟩)
    (baseline := fun _ hq =>
      ⟨status, .inr ⟨keptStatus, by by_cases ho : s.op = opPset <;> simp [hq, ho, nextStates]⟩⟩)
    (hostin := fun hq => ⟨written _, .inr ⟨rfl, by simp [hq, nextStates, State.pHostin]⟩⟩)
    (tagged := fun hq => ⟨written _, .inr ⟨rfl, by simp [hq, nextStates, State.pCmd]⟩⟩)
    (paramOn := fun _ hq =>
      ⟨status, .inr ⟨keptStatus, by by_cases ho : s.op = opPset <;> simp [hq, ho, nextStates]⟩⟩)
    (paramEnd := fun _ _ => ⟨status, .inl rfl⟩)
    (paramGo := fun hq ho => ⟨status, .inr ⟨keptStatus, by simp [hq, ho, nextStates]⟩⟩)
    (value := fun _ => ⟨readOnce _ _, .inl rfl⟩)
    (output := fun hq _ => ⟨output, .inr ⟨keptOutput, by simp [hq, nextStates]⟩⟩)
    (assembled := fun _ _ _ _ => ⟨output, .inl rfl⟩)
    (failed := fun _ _ _ _ _ => ⟨output, .inl rfl⟩)

/-- What an engine step that does not end the operation keeps, and where it goes. -/
theorem engineStep_goesOn {s : State} (hgo : s.engineStep.seq ≠ .idle) :
    s.engineStep.operation = s.operation ∧ s.engineStep.seq ∈ nextStates s.op s.seq := by
  have hne : s.seq ≠ .idle := by
    intro hq
    rw [engineStep_of_idle hq] at hgo
    exact hgo hq
  exact (engineStep_progress hne).outcome.resolve_left hgo

/-- Whether the registers hold an operation does not depend on SEQ, RETRY or the result registers. -/
theorem holds_congr {s t : State} (h : t.operation = s.operation) (i : Instr) : t.holds i = s.holds i := by
  simp only [State.operation, Operation.mk.injEq] at h
  obtain ⟨-, -, hop, hf, ha, hb, hw, -⟩ := h
  rw [Bool.eq_iff_iff]
  simp only [State.holds_iff, State.sendBytes, hop, hf, ha, hb, hw]

/-- An operation in progress is in one of its states, which IDLE is not. -/
theorem State.Running.seq_ne_idle {s : State} {i : Instr} (h : s.Running i) : s.seq ≠ .idle := by
  obtain ⟨-, -, hown⟩ := h
  exact ne_idle_of_ownState hown

/-- An operation that an engine step does not end is still in progress (10_state.md R32). -/
theorem State.Running.engineStep {s : State} {i : Instr} (h : s.Running i) (hgo : s.engineStep.seq ≠ .idle) :
    s.engineStep.Running i := by
  obtain ⟨hb, hh, hown⟩ := h
  obtain ⟨same, hnext⟩ := engineStep_goesOn hgo
  have hop : s.op = i.opcode := (State.holds_iff.mp hh).1
  exact ⟨(congrArg Operation.busy same).trans hb, (holds_congr same i).trans hh,
    ownState_of_mem_nextStates hown (hop ▸ hnext)⟩

/-- An operation that an engine step ends has ended in BUSY and DONE too (60_exceptions.md R296). -/
theorem State.Running.ended_engineStep {s : State} {i : Instr} (hrun : s.Running i) (h : s.Inv) (hh : s.host = [])
    (hend : s.engineStep.seq = .idle) : s.engineStep.Ended := by
  have hb : s.engineStep.busy = false := by simp [h.engineStep.busyIffNotIdle, hend]
  have hreset : ∀ rest, s.host ≠ .reset :: rest := by simp [hh]
  obtain ⟨hdone, -⟩ := doneMarksTheEnd s _ h (step_of_silent hh) hreset
  exact ⟨hb, hdone hrun.1 hb⟩

/-- A poll of SENDCMD that goes on raises RETRY. -/
theorem retry_engineStep_of_poll {s : State} (h : s.Inv) (hq : s.seq = .scPoll) (hgo : s.engineStep.seq ≠ .idle) :
    s.engineStep.retry = s.retry + 1 := by
  rw [State.engineStep, hq] at hgo ⊢
  rcases s.scPoll_cases with ⟨-, he⟩ | ⟨_, -, he⟩ | ⟨_, -, -, he⟩ | ⟨_, -, -, -, he⟩ | ⟨_, -, -, -, he⟩ <;>
    rw [he] at hgo ⊢
  · exact absurd rfl hgo
  · exact absurd rfl hgo
  · exact absurd rfl hgo
  · exact absurd rfl hgo
  · exact h.countPoll_eq hq

/-- A read of RDOUT that goes on is not the fourth, and raises OIDX. -/
theorem oidx_engineStep_of_output {s : State} (hq : s.seq = .roRead) (hgo : s.engineStep.seq ≠ .idle) :
    s.engineStep.oidx.val = s.oidx.val + 1 := by
  have ho : s.oidx ≠ 3 := by
    intro ho
    rw [engineStep_output_last hq ho] at hgo
    rcases s.outputRead.roEnd_cases with ⟨_, _, -, -, he⟩ | ⟨-, _, _, _, he⟩ <;> exact hgo (he ▸ rfl)
  rw [engineStep_output_next hq ho]
  exact Fin.val_add_one_of_lt (Fin.lt_last_iff_ne_last.mpr ho)

/-- The steps of the parameter access after its poll: PQUERY reads a response (42_param_access.md R225). -/
def State.responseSteps (s : State) : Nat := if s.op = opPset then 0 else 1

/-- The most steps the operation in progress still makes (R332), by its sequencer state and the counter of its loop. For
the parameter poll it counts the counters from the baseline up, as R229 does for mode PREVIOUS_POLL. -/
def State.stepsLeft (s : State) : Nat :=
  match s.seq with
  | .idle => 0
  | .scInit => 2 + s.cfg.maxRetries
  | .scCmd => 1 + s.cfg.maxRetries
  | .scPoll => s.cfg.maxRetries - s.retry
  | .wdXfer => 1
  | .rrXfer => 1
  | .pBase => 3 + 16
  | .pHostin => 2 + 16 + s.responseSteps
  | .pCmd => 1 + 16 + s.responseSteps
  | .pPoll => 16 - s.priorCtr.toNat + s.responseSteps
  | .pRead => 1
  | .roRead => 4 - s.oidx.val

/-- While an operation is in progress a step is left: no loop's counter has reached its bound. -/
theorem stepsLeft_pos {s : State} (h : s.Inv) (hne : s.seq ≠ .idle) : 0 < s.stepsLeft := by
  cases hq : s.seq with
  | idle => exact absurd hq hne
  | scPoll =>
    have hretry : s.retry < s.cfg.maxRetries := h.retryBelow hq
    simp only [State.stepsLeft, hq]
    omega
  | pPoll =>
    have hprior : s.priorCtr.toNat < 16 := s.priorCtr.isLt
    simp only [State.stepsLeft, hq]
    omega
  | roRead =>
    have hoidx : s.oidx.val < 4 := s.oidx.isLt
    simp only [State.stepsLeft, hq]
    omega
  | _ =>
    simp only [State.stepsLeft, hq]
    omega

/-- In any of its states an operation has at most the steps of R332 left. -/
theorem State.Running.stepsLeft_le {s : State} {i : Instr} (h : s.Running i) :
    s.stepsLeft ≤ Claims.stepBound s.cfg i := by
  obtain ⟨-, -, hown⟩ := h
  have hresponse : s.responseSteps ≤ 1 := by
    unfold State.responseSteps
    split <;> omega
  cases i with
  | sendcmd force code =>
    obtain hq | hq | hq : s.seq = .scInit ∨ s.seq = .scCmd ∨ s.seq = .scPoll := of_decide_eq_true hown
    all_goals simp only [State.stepsLeft, hq, Claims.stepBound]; omega
  | rdreg reg count =>
    have hq : s.seq = .rrXfer := of_decide_eq_true hown
    simp only [State.stepsLeft, hq, Claims.stepBound, Nat.le_refl]
  | wrdata payload =>
    have hq : s.seq = .wdXfer := of_decide_eq_true hown
    simp only [State.stepsLeft, hq, Claims.stepBound, Nat.le_refl]
  | rdout =>
    have hq : s.seq = .roRead := of_decide_eq_true hown
    simp only [State.stepsLeft, hq, Claims.stepBound, Nat.sub_le]
  | pset loc value =>
    obtain hq | hq | hq | hq := ownState_pset_iff.mp hown
    all_goals simp only [State.stepsLeft, hq, Claims.stepBound]; omega
  | pquery loc =>
    obtain hq | hq | hq | hq := ownState_pquery_iff.mp hown
    all_goals simp only [State.stepsLeft, hq, Claims.stepBound]; omega

/-- Each step that goes on leaves fewer. Between states the count falls by the order of the states; in each of the three
loops by the counter the loop raises. -/
theorem State.Running.stepsLeft_engineStep_lt {s : State} {i : Instr} (hrun : s.Running i) (h : s.Inv)
    (hgo : s.engineStep.seq ≠ .idle) (hprev : ownState i .pPoll = true → s.cfg.paramBaseline = .previousPoll) :
    s.engineStep.stepsLeft < s.stepsLeft := by
  obtain ⟨-, -, hown⟩ := hrun
  obtain ⟨same, hnext⟩ := engineStep_goesOn hgo
  have hcfg : s.engineStep.cfg = s.cfg := congrArg Operation.cfg same
  have hop : s.engineStep.op = s.op := congrArg Operation.op same
  cases hq : s.seq with
  | idle | wdXfer | rrXfer | pRead => simp [hq, nextStates] at hnext
  | scInit | scCmd | pHostin | pCmd =>
    simp only [hq, nextStates, List.mem_singleton] at hnext
    simp only [State.stepsLeft, State.responseSteps, hq, hnext, hcfg, hop]
    omega
  | pBase =>
    by_cases ho : s.op = opPset
    · simp only [hq, nextStates, if_pos ho, List.mem_singleton] at hnext
      simp only [State.stepsLeft, State.responseSteps, hq, hnext, hop, if_pos ho]
      omega
    · simp only [hq, nextStates, if_neg ho, List.mem_singleton] at hnext
      simp only [State.stepsLeft, State.responseSteps, hq, hnext, hop, if_neg ho]
      omega
  | scPoll =>
    have hraised := retry_engineStep_of_poll h hq hgo
    have hbelow := h.retryBelow hq
    simp only [hq, nextStates, List.mem_singleton] at hnext
    simp only [State.stepsLeft, hq, hnext, hcfg, hraised]
    omega
  | roRead =>
    have hraised := oidx_engineStep_of_output hq hgo
    simp only [hq, nextStates, List.mem_singleton] at hnext
    simp only [State.stepsLeft, hq, hnext, hraised]
    omega
  | pPoll =>
    by_cases hstay : s.engineStep.seq = .pPoll
    · have hraised := priorCtr_lt_of_previousPoll (hprev (hq ▸ hown)) hq hstay
      have hmax : s.engineStep.priorCtr.toNat < 16 := s.engineStep.priorCtr.isLt
      simp only [State.stepsLeft, State.responseSteps, hq, hstay, hop]
      omega
    · have hmax : s.priorCtr.toNat < 16 := s.priorCtr.isLt
      have ho : s.op ≠ opPset := by
        intro ho
        simp [hq, ho, nextStates, hstay] at hnext
      have hread : s.engineStep.seq = .pRead := by simpa [hq, ho, nextStates, hstay] using hnext
      simp only [State.stepsLeft, State.responseSteps, hq, hread, if_neg ho]
      omega

/-- Only the parameter poll needs mode PREVIOUS_POLL; the statement leaves out the operations that make it in the other
mode. -/
theorem previousPoll_of_ownState {cfg : Config} {i : Instr}
    (h : cfg.paramBaseline = .fixedInitial → (∀ loc value, i ≠ .pset loc value) ∧ ∀ loc, i ≠ .pquery loc)
    (hown : ownState i .pPoll = true) : cfg.paramBaseline = .previousPoll := by
  cases hm : cfg.paramBaseline with
  | previousPoll => rfl
  | fixedInitial =>
    obtain ⟨hset, hquery⟩ := h hm
    cases i with
    | pset loc value => exact absurd rfl (hset loc value)
    | pquery loc => exact absurd rfl (hquery loc)
    | _ => simp [ownState] at hown

/-- An operation left alone ends within its count of steps left. -/
theorem exists_run_ended {s : State} {i : Instr} {m : Nat} (hinv : s.Inv) (hrun : s.Running i) (hh : s.host = [])
    (hprev : ownState i .pPoll = true → s.cfg.paramBaseline = .previousPoll) (hm : s.stepsLeft ≤ m) :
    ∃ n t, 1 ≤ n ∧ n ≤ m ∧ run n s = .next t ∧ t.Ended ∧ t.seq = .idle ∧ t.trace.length = s.trace.length + n := by
  induction m generalizing s with
  | zero => exact absurd (stepsLeft_pos hinv hrun.seq_ne_idle) (Nat.not_lt.mpr hm)
  | succ m ih =>
    have hlen := (engineStep_progress hrun.seq_ne_idle).transaction
    by_cases hend : s.engineStep.seq = .idle
    · exact ⟨1, _, Nat.le_refl 1, by omega, run_one hh, hrun.ended_engineStep hinv hh hend, hend, hlen⟩
    · have hless := hrun.stepsLeft_engineStep_lt hinv hend hprev
      obtain ⟨hcfg, hhost⟩ := configurationIsStatic s _ (step_of_silent hh)
      rw [hh, List.tail_nil] at hhost
      obtain ⟨n, t, -, hnm, hmore, hended, hidle, htrace⟩ :=
        ih hinv.engineStep (hrun.engineStep hend) hhost (hcfg ▸ hprev) (by omega)
      exact ⟨n + 1, t, by omega, by omega, (run_succ_of_engineStep hh rfl).trans hmore, hended, hidle, by omega⟩

/-- Settles O50: the steps left are within the bound of R332. -/
theorem boundedOperationsEnd : Obligations.BoundedOperationsEnd :=
  fun _ _ hinv hrun hh hbase => exists_run_ended hinv hrun hh (previousPoll_of_ownState hbase) hrun.stepsLeft_le

end Sys2Proof.Machine
